-- ==== Sys2Proof/Word.lean ====
section
/-!
DEFINITION. The widths of the block's words (spec/00_scope.md R6, R7): a register of width N is an unsigned N-bit number.
-/

namespace Sys2Proof

/-- A frame byte, a pin identifier (PINW = 8) or a slot index (HW = 8). -/
abbrev Byte := BitVec 8

/-- A command word (CMDW = 32) or a packed Reading. -/
abbrev Word := BitVec 32

/-- A number of microseconds on the Edge Timer (TW = 64). -/
abbrev Time := BitVec 64

/-- The Signal Waiter's elapsed count (CNTW = 7). -/
abbrev Count := BitVec 7

/-- The hold counter (HOLDW = 20). -/
abbrev HoldCount := BitVec 20

/-- The bit index of the sampling loop (BITIW = 6). -/
abbrev BitIndex := BitVec 6

/-- A level of a digital line: `false` is 0 (low), `true` is 1 (high) (R7). -/
abbrev Level := Bool

end Sys2Proof
end

