-- ==== Sys2Proof/Config.lean ====
section
/-!
DEFINITION. What is fixed for the machine: the parameters of spec/00_scope.md R5, which a model "takes as configuration", with
the defaults the spec gives them; the parameters of R6; and the values the spec leaves open, which are constants with no body.
-/

namespace Sys2Proof

/-- The parameters of R5. Every rule names the parameter, not the number; `Params.default` has the numbers. N_BYTES and N_WAITS
follow from N_BITS (`Params.nBytes`, `Params.nWaits`). -/
structure Params where
  /-- T_START_LOW: ticks the host holds the line low. -/
  tStartLow : HoldCount
  /-- T_START_HIGH: ticks the host holds the line high after the low hold. -/
  tStartHigh : HoldCount
  /-- T_ACK: budget of each wait of the response handshake. -/
  tAck : Count
  /-- T_BIT_LOW: budget of the wait for the line to leave its low phase, per bit. -/
  tBitLow : Count
  /-- T_BIT_HIGH: budget of the measured high phase, per bit. -/
  tBitHigh : Count
  /-- T_ONE: a high phase of at most this many counts is bit 0, a longer one bit 1. -/
  tOne : Count
  /-- N_BITS: frame length in bits. -/
  nBits : BitIndex
  /-- T_SETTLE: power-on settle time since boot. -/
  tSettle : Time
  /-- T_THROTTLE: minimum re-sample interval. -/
  tThrottle : Time
deriving DecidableEq, Repr

/-- The defaults of R5, "the source's value" of each. -/
def Params.default : Params :=
  { tStartLow := 20000#20
    tStartHigh := 40#20
    tAck := 80#7
    tBitLow := 50#7
    tBitHigh := 70#7
    tOne := 27#7
    nBits := 40#6
    tSettle := 1000000#64
    tThrottle := 2000000#64 }

/-- N_BYTES: frame length in bytes, N_BITS / 8 (R5). -/
def Params.nBytes (p : Params) : Nat := p.nBits.toNat / 8

/-- N_WAITS: Signal Waiter calls in one complete acquisition, 2 + N_BITS x 2 (R5: 2 + 40 x 2). -/
def Params.nWaits (p : Params) : Nat := 2 + p.nBits.toNat * 2

/-- The parameter values for which the claims about runs are made: the frame fits FRAME0 to FRAME4, the settle hold fits HOLDC
(HOLDW of R6). DESIGN CHOICE: the spec states no ranges of the parameters; log 19. -/
def Params.fits (p : Params) : Bool :=
  decide (p.nBits.toNat ≤ 40 ∧ p.tSettle.toNat < 1048576)

/-- NHANDLES at reset: the default of R6. `State.resetWith` takes any other; a state's own number of slots is the length of its
slot list, and every operation works for every such number (log 5). -/
def Config.nHandles : Nat := 1

/-- OVH: the ticks one command spends outside holds and samples beyond the steps the model itself needs, "unspecified, finite" (R6,
spec/70 R170). The argument is the state's counter of draws at the command's acceptance. No body: nothing can be proved of its
value. Log 6. -/
opaque Config.ovh (draw : Nat) : Nat

/-- FREE VALUE. What a `w`-bit place holds whose value the spec calls unspecified: `draw` is the state's counter of draws,
`place` tells the places of one draw apart. No body: nothing can be proved of its value. Log 4, safe. -/
opaque Config.free (draw place w : Nat) : BitVec w

end Sys2Proof
end

