-- ==== Sys2Proof/Syntax.lean ====
section
/-!
DEFINITION. The instructions: one constructor for each row of spec/opcode_table.json. The three commands are the words of
the command port (spec/30_encoding.md R60 to R63), the ten phases the values of the sequencer's program counter (R71).
-/

namespace Sys2Proof

/-- The sensor variant of a SensorConfig, "in {Type11, Type22}" (R65). -/
inductive Variant where
  | type11
  | type22
deriving DecidableEq, Repr

/-- The ten values PHASE can take (spec/10_state.md R12, spec/30_encoding.md R71). Codes 10 to 15 are never entered, and
the type does not contain them (spec/93 U12). -/
inductive Phase where
  | idle
  | settle
  | startLow
  | startHigh
  | ackLow
  | ackHigh
  | bitLow
  | bitHigh
  | check
  | respond
deriving DecidableEq, Repr

/-- One constructor per row of the opcode table. `pin` and `h` are the numbers the command line writes (R72); the word holds
them in 8 bits. -/
inductive Instr where
  /-- CREATE, format C: CP (config present), VAR, PIN (R61). -/
  | create (cp : Bool) (var : Variant) (pin : Nat)
  /-- READ, format H: HP (handle present), DP (destination present), H (R62). -/
  | read (hp : Bool) (dp : Bool) (h : Nat)
  /-- DESTROY, format H: HP (handle present), H (R62). -/
  | destroy (hp : Bool) (h : Nat)
  | phaseIdle
  | phaseSettle
  | phaseStartLow
  | phaseStartHigh
  | phaseAckLow
  | phaseAckHigh
  | phaseBitLow
  | phaseBitHigh
  | phaseCheck
  | phaseRespond
deriving DecidableEq, Repr

/-- The instruction the sequencer executes when PHASE has this value (R71). -/
def Phase.instr : Phase → Instr
  | .idle => .phaseIdle
  | .settle => .phaseSettle
  | .startLow => .phaseStartLow
  | .startHigh => .phaseStartHigh
  | .ackLow => .phaseAckLow
  | .ackHigh => .phaseAckHigh
  | .bitLow => .phaseBitLow
  | .bitHigh => .phaseBitHigh
  | .check => .phaseCheck
  | .respond => .phaseRespond

end Sys2Proof
end

