-- ==== Sys2Proof/WellFormed.lean ====
section
/-!
DEFINITION. Which instructions have an encoding: the numbers of a command fit their fields (spec/30_encoding.md R61, R62,
R72: `pin=<0..255>`, `h=<0..255>`).
-/

namespace Sys2Proof

/-- PINW = 8: a pin identifier is 0 to 255 (spec/00_scope.md R6). -/
def pinFits (pin : Nat) : Bool := decide (pin < 256)

/-- HW = 8: a handle field is 0 to 255 (spec/00_scope.md R6). A handle that names no slot of the block is well-formed: it
is "not a reserved encoding" (R64). -/
def handleFits (h : Nat) : Bool := decide (h < 256)

/-- The instruction has an encoding. -/
def WellFormed : Instr → Bool
  | .create _ _ pin => pinFits pin
  | .read _ _ h => handleFits h
  | .destroy _ h => handleFits h
  | .phaseIdle => true
  | .phaseSettle => true
  | .phaseStartLow => true
  | .phaseStartHigh => true
  | .phaseAckLow => true
  | .phaseAckHigh => true
  | .phaseBitLow => true
  | .phaseBitHigh => true
  | .phaseCheck => true
  | .phaseRespond => true

end Sys2Proof
end

