-- ==== Sys2Proof/Decode.lean ====
section
/-!
DEFINITION. Decoding and encoding (spec/30_encoding.md R60 to R65, R71, R75): the command words of the command port and the
codes of PHASE. Decoding is total; a word that no row of the opcode map matches is rejected by name.
-/

namespace Sys2Proof

/-- Why a word is no instruction. -/
inductive DecodeError where
  /-- OP = 0b11 (R64). -/
  | reservedOp
  /-- A must-be-zero bit is set: one of [27:8], or bit 28 of a DESTROY word (R64). -/
  | reservedField
  /-- A PHASE code 10 to 15, "never entered" (R71). -/
  | unusedPhase
deriving DecidableEq, Repr

/-- A row of the opcode map (R63). -/
structure OpRow where
  mask : Word
  pattern : Word
deriving DecidableEq, Repr

/-- "A command word w selects a command when (w AND mask) = match" (R63). -/
def OpRow.selects (r : OpRow) (w : Word) : Bool := w &&& r.mask == r.pattern

def createRow : OpRow := ⟨0xCFFFFF00#32, 0x00000000#32⟩
def readRow : OpRow := ⟨0xCFFFFF00#32, 0x40000000#32⟩
def destroyRow : OpRow := ⟨0xDFFFFF00#32, 0x80000000#32⟩

/-- The complete opcode map: "The three rows are the complete list" (R63). -/
def opcodeMap : List OpRow := [createRow, readRow, destroyRow]

/-- VAR: 0 = Type11, 1 = Type22 (R65). -/
def Variant.ofBit : Bool → Variant
  | false => .type11
  | true => .type22

def Variant.bit : Variant → Bool
  | .type11 => false
  | .type22 => true

/-- OP, bits [31:30] of every command word (R60). -/
def opField (w : Word) : BitVec 2 := w.extractLsb' 30 2

/-- The presence bit [29]: CP, or HP (R61, R62). -/
def presentField (w : Word) : Bool := w.getLsbD 29

/-- Bit [28]: VAR in CREATE, DP in READ, must be 0 in DESTROY (R61, R62). -/
def bit28Field (w : Word) : Bool := w.getLsbD 28

/-- PIN or H, bits [7:0], an unsigned number (R65). -/
def lowField (w : Word) : Byte := w.extractLsb' 0 8

/-- The command a word on the command port stands for, or why it is reserved (R63, R64). -/
def decodeCommand (w : Word) : Except DecodeError Instr :=
  if createRow.selects w then
    .ok (.create (presentField w) (Variant.ofBit (bit28Field w)) (lowField w).toNat)
  else if readRow.selects w then
    .ok (.read (presentField w) (bit28Field w) (lowField w).toNat)
  else if destroyRow.selects w then
    .ok (.destroy (presentField w) (lowField w).toNat)
  else if opField w = 0b11#2 then .error .reservedOp
  else .error .reservedField

/-- The code of a phase (R71). -/
def Phase.code : Phase → BitVec 4
  | .idle => 0#4
  | .settle => 1#4
  | .startLow => 2#4
  | .startHigh => 3#4
  | .ackLow => 4#4
  | .ackHigh => 5#4
  | .bitLow => 6#4
  | .bitHigh => 7#4
  | .check => 8#4
  | .respond => 9#4

/-- The phase a code stands for; codes 10 to 15 stand for none (R71). -/
def Phase.ofCode (c : BitVec 4) : Option Phase :=
  match c.toNat with
  | 0 => some .idle
  | 1 => some .settle
  | 2 => some .startLow
  | 3 => some .startHigh
  | 4 => some .ackLow
  | 5 => some .ackHigh
  | 6 => some .bitLow
  | 7 => some .bitHigh
  | 8 => some .check
  | 9 => some .respond
  | _ => none

/-- The instruction a PHASE code stands for (R71). -/
def decodePhase (c : BitVec 4) : Except DecodeError Instr :=
  match Phase.ofCode c with
  | some p => .ok p.instr
  | none => .error .unusedPhase

/-- The two kinds of encoding of the opcode table: a 32-bit word on the command port, a 4-bit code in PHASE. "a command is
always one 32-bit word and its length never has to be found" (R75). -/
inductive Code where
  | command (w : Word)
  | phase (c : BitVec 4)
deriving DecidableEq, Repr

/-- The decoder: total, rejecting by name. -/
def decode : Code → Except DecodeError Instr
  | .command w => decodeCommand w
  | .phase c => decodePhase c

/-- A command word from its fields, the layout of formats C and H (R61, R62): OP [31:30], presence [29], bit [28], zeros
[27:8], the low field [7:0]. -/
def commandWord (op : BitVec 2) (present bit28 : Bool) (low : Byte) : Word :=
  op ++ BitVec.ofBool present ++ BitVec.ofBool bit28 ++ 0#20 ++ low

/-- The encoder, from the formats of R61, R62 and the codes of R71. -/
def encode : Instr → Code
  | .create cp var pin => .command (commandWord 0b00#2 cp var.bit (BitVec.ofNat 8 pin))
  | .read hp dp h => .command (commandWord 0b01#2 hp dp (BitVec.ofNat 8 h))
  | .destroy hp h => .command (commandWord 0b10#2 hp false (BitVec.ofNat 8 h))
  | .phaseIdle => .phase Phase.idle.code
  | .phaseSettle => .phase Phase.settle.code
  | .phaseStartLow => .phase Phase.startLow.code
  | .phaseStartHigh => .phase Phase.startHigh.code
  | .phaseAckLow => .phase Phase.ackLow.code
  | .phaseAckHigh => .phase Phase.ackHigh.code
  | .phaseBitLow => .phase Phase.bitLow.code
  | .phaseBitHigh => .phase Phase.bitHigh.code
  | .phaseCheck => .phase Phase.check.code
  | .phaseRespond => .phase Phase.respond.code

/-- The instruction the decoder reads from a row's bits: a PHASE row is 4 bits (one byte of the table), a command row 32. -/
def codeOfTableWord (nbits w : Nat) : Option Code :=
  if nbits ≤ 8 then
    if w < 16 then some (.phase (BitVec.ofNat 4 w)) else none
  else
    if w < 4294967296 then some (.command (BitVec.ofNat 32 w)) else none

def decodeTableWord (nbits w : Nat) : Option Instr :=
  match codeOfTableWord nbits w with
  | none => none
  | some c =>
    match decode c with
    | .ok i => some i
    | .error _ => none

end Sys2Proof
end

