-- ==== Sys2Proof/Machine/State.lean ====
section
/-!
DEFINITION. The state of the block as plain data (spec/10_state.md R10 to R25), the reasons a step can stop, and the state
after reset (spec/70_reset_and_hazards.md R160).
-/

namespace Sys2Proof.Machine

/-- The status codes a response or an inner result can have (spec/30_encoding.md R67). Codes 5 to 7 are not produced and are
not in the type (spec/93 U12). -/
inductive Status where
  | ok
  | fail
  | invalidArg
  | noMem
  /-- Internal to the Signal Waiter, never on the response port (spec/60_exceptions.md R143). -/
  | timeout
deriving DecidableEq, Repr

/-- A response: "the type (status, optional handle, optional reading)" (spec/30_encoding.md R66). -/
structure Response where
  status : Status
  handle : Option Byte
  reading : Option Word
deriving DecidableEq, Repr

/-- The events of the I/O event trace (spec/20_memory.md R51). -/
inductive Event where
  /-- `Cmd(word)`: a command word is accepted. -/
  | cmd (word : Word)
  /-- `Dir(pin, d)`: direction set; `true` is OUT. -/
  | dir (pin : Byte) (out : Bool)
  /-- `Set(pin, v)`: output level set. -/
  | set (pin : Byte) (v : Level)
  /-- `Get(pin) = v`: one sample. -/
  | get (pin : Byte) (v : Level)
  /-- `Now() = t`: one read of the Edge Timer. -/
  | now (t : Time)
  /-- `Hold(n)`: a hold of n ticks begins. -/
  | hold (n : Nat)
  /-- `Rsp(status, handle, reading)`: a response is delivered. -/
  | rsp (r : Response)
deriving DecidableEq, Repr

/-- The source's RawFrame, FRAME0 to FRAME4 (spec/10_state.md R11). -/
structure RawFrame where
  /-- FRAME0, humidity integral. -/
  frame0 : Byte
  /-- FRAME1, humidity fractional. -/
  frame1 : Byte
  /-- FRAME2, temperature integral. -/
  frame2 : Byte
  /-- FRAME3, temperature fractional. -/
  frame3 : Byte
  /-- FRAME4, checksum. -/
  frame4 : Byte
deriving DecidableEq, Repr

/-- One slot of the handle context file (spec/10_state.md R15 to R18). -/
structure Slot where
  /-- ALLOC[h]: the slot holds a live handle (R15). -/
  alloc : Bool
  /-- CFG_PIN[h] (R16). -/
  cfgPin : Byte
  /-- CFG_VAR[h] (R16). -/
  cfgVar : Variant
  /-- TSV[h]: LAST_TS holds a timestamp (R17). -/
  tsv : Bool
  /-- LAST_TS[h]: the time taken just before the last acquisition attempt (R17). -/
  lastTs : Time
  /-- RVALID[h]: LAST_READING holds a Reading (R18). -/
  rvalid : Bool
  /-- LAST_READING[h] (R18). -/
  lastReading : Word
deriving DecidableEq, Repr

/-- The levels on the input ports in one tick (spec/20_memory.md R40). -/
structure Inputs where
  rst : Bool
  cmdValid : Bool
  cmdWord : Word
  pinIn : Level
  now : Time
deriving DecidableEq, Repr

/-- The levels on the output ports in one tick (spec/20_memory.md R40). -/
structure Outputs where
  cmdReady : Bool
  rspValid : Bool
  rspStatus : BitVec 3
  rspHandle : Byte
  rspReading : Word
  pinSel : Byte
  pinOe : Bool
  pinOut : Level
deriving DecidableEq, Repr

/-- The whole architectural state (spec/10_state.md R10), then the model's own fields (INVENTORY.md). -/
structure State where
  /-- S0 PHASE: the step the sequencer is at (R12). -/
  phase : Phase
  /-- S1 BITI: the bit position of the sampling loop (R13). -/
  biti : BitIndex
  /-- S2 CMD: the accepted command word (R14). -/
  cmd : Word
  /-- S3 H: the slot index the command works on (R14). -/
  h : Byte
  /-- S4 T: the last value `Now()` returned in the current READ (R14). -/
  t : Time
  /-- S5 HOLDC: the ticks left of the current hold (R14). -/
  holdc : HoldCount
  /-- S6 CNT: the Signal Waiter's elapsed count (R14). -/
  cnt : Count
  /-- S7 EXP: the level the current WAIT expects (R14). -/
  exp : Level
  /-- S8 BUD: the budget of the current WAIT (R14). -/
  bud : Count
  /-- S9 to S13 FRAME0 to FRAME4 (R11). -/
  frame : RawFrame
  /-- S14 PIN_SEL: the pin the pin ports mean (R21). -/
  pinSel : Byte
  /-- S15 PIN_OE: `true` is output (R21). -/
  pinOe : Bool
  /-- S16 PIN_OUT: the level driven when PIN_OE = 1 (R21). -/
  pinOut : Level
  /-- S17 RSP_VALID: 1 in the tick a response is delivered (R22). -/
  rspValid : Bool
  /-- S18 RSP_STATUS (R22). -/
  rspStatus : BitVec 3
  /-- S19 RSP_HANDLE (R22). -/
  rspHandle : Byte
  /-- S20 RSP_READING (R22). -/
  rspReading : Word
  /-- S32 to S38: the handle context file; NHANDLES is its length (R15). -/
  slots : List Slot
  /-- MODEL'S OWN: the arguments of the `respond` call that PHASE = RESPOND executes (log 7). -/
  rspArgs : Response
  /-- MODEL'S OWN: the ticks of OVH this command still spends before its response (spec/00_scope.md R6; log 6). -/
  ovhLeft : Nat
  /-- MODEL'S OWN: the parameters of spec/00_scope.md R5, fixed for the machine; no step changes them (log 19). -/
  params : Params
  /-- MODEL'S OWN: the levels on the input ports in the present tick (log 1). -/
  inp : Inputs
  /-- MODEL'S OWN: the input levels of the ticks to come, as far as they are given (log 1). -/
  inputs : List Inputs
  /-- MODEL'S OWN: how many times a free value has been drawn (log 4). -/
  drawn : Nat
  /-- MODEL'S OWN: the I/O event trace of R51, latest event first (log 13). -/
  trace : List Event
deriving DecidableEq, Repr

/-- Why a step ends in a fault: "a fault that is never cleared" (spec/42_handle_commands.md R123). Every one is safe: the
model stops and claims nothing more. -/
inductive Fault where
  /-- Raised by DESTROY with HP = 1 naming a slot that is not live, H >= NHANDLES included (R123 a, U1). Safe. -/
  | destroyDeadHandle
  /-- Raised by READ with HP = 1 and DP = 1 naming a slot that is not live, H >= NHANDLES included (R123 b, U2). Safe. -/
  | readDeadHandle
  /-- Raised by DESTROY with HP = 0 (R123 c, U3). Safe. -/
  | destroyAbsentHandle
  /-- Raised by PHASE_SETTLE, PHASE_START_LOW and PHASE_CHECK when H names no slot, a register that does not exist (R15).
  No run from reset reaches it (log 16). Safe. -/
  | noSuchSlot
deriving DecidableEq, Repr

/-- Why a step is refused: no claim is made about the execution. Every one is safe. -/
inductive Refusal where
  /-- An instruction that has no meaning in the model yet; no arm of `exec` raises it. Safe. -/
  | notModelled (mnemonic : String)
  /-- Raised by CREATE with CP = 1 and VAR = 1: "This spec therefore gives the command no response value: a model refuses
  it" (R121, U4). Safe. -/
  | createType22
  /-- Raised by PHASE_START_LOW when CFG_VAR[H] = 1: "A model must not invent a Type22 start sequence" (spec/41 R102, U5).
  No run from reset reaches it. Safe. -/
  | startType22
deriving DecidableEq, Repr

/-- A free slot as State.reset holds it: ALLOC = 0 (R160); the other registers have no reset value in the spec and are zero
by DESIGN CHOICE (log 3, unsafe). -/
def Slot.reset : Slot :=
  { alloc := false, cfgPin := 0#8, cfgVar := .type11, tsv := false, lastTs := 0#64, rvalid := false, lastReading := 0#32 }

/-- The levels on the input ports in the first tick: the environment's, not the block's. All zero by DESIGN CHOICE (log 2,
unsafe); no statement rests on them. -/
def Inputs.reset : Inputs :=
  { rst := false, cmdValid := false, cmdWord := 0#32, pinIn := false, now := 0#64 }

/-- The reset state of a block with parameters `p` and `n` slots (spec/70_reset_and_hazards.md R160, spec/10_state.md R25): PHASE =
IDLE, PIN_OE = 0, PIN_OUT = 1, RSP_VALID = 0, ALLOC[h] = 0 for every h. Every other register is unspecified there and zero here
by DESIGN CHOICE (log 3, unsafe). The parameters and NHANDLES are arguments (spec/00_scope.md R5, R6). -/
def State.resetWith (p : Params) (n : Nat) : State :=
  { phase := .idle
    biti := 0#6
    cmd := 0#32
    h := 0#8
    t := 0#64
    holdc := 0#20
    cnt := 0#7
    exp := false
    bud := 0#7
    frame := ⟨0#8, 0#8, 0#8, 0#8, 0#8⟩
    pinSel := 0#8
    pinOe := false
    pinOut := true
    rspValid := false
    rspStatus := 0#3
    rspHandle := 0#8
    rspReading := 0#32
    slots := List.replicate n Slot.reset
    rspArgs := ⟨.ok, none, none⟩
    ovhLeft := 0
    params := p
    inp := Inputs.reset
    inputs := []
    drawn := 0
    trace := [] }

/-- The reset state of the block with the defaults of spec/00_scope.md R5 and R6: one slot. -/
def State.reset : State := State.resetWith Params.default Config.nHandles

end Sys2Proof.Machine
end

