-- ==== Sys2Proof/Machine/Operands.lean ====
section
/-!
DEFINITION. The values the block moves: status codes, the bits and bytes of a frame, the packing and typing of a Reading
(spec/30_encoding.md R66 to R70, spec/10_state.md R11, R18, R19, spec/41_frame_decoder.md R106, R108).
-/

namespace Sys2Proof.Machine

/-- The number of a status on the response port (R67). -/
def Status.code : Status → BitVec 3
  | .ok => 0#3
  | .fail => 1#3
  | .invalidArg => 2#3
  | .noMem => 3#3
  | .timeout => 4#3

/-- A byte with bit `i` replaced by `b` (the store of one bit of one register, R106). -/
def setBit (v : Byte) (i : Nat) (b : Bool) : Byte :=
  (v &&& ~~~(1#8 <<< i)) ||| ((BitVec.ofBool b).setWidth 8 <<< i)

/-- FRAMEk, for k = 0 to 4 (R11). -/
def RawFrame.byte? (f : RawFrame) : Nat → Option Byte
  | 0 => some f.frame0
  | 1 => some f.frame1
  | 2 => some f.frame2
  | 3 => some f.frame3
  | 4 => some f.frame4
  | _ => none

/-- `FRAME(i div 8)[7 - (i mod 8)] <- b`: "Only that one bit of that one register is written" (R106). `i div 8` is BITI[5:3]
and `i mod 8` is BITI[2:0] (spec/41 R113). Past position 39 there is no frame register and nothing is written (log 22). -/
def RawFrame.storeBit (f : RawFrame) (i : BitIndex) (b : Bool) : RawFrame :=
  let at7 := 7 - i.toNat % 8
  match i.toNat / 8 with
  | 0 => { f with frame0 := setBit f.frame0 at7 b }
  | 1 => { f with frame1 := setBit f.frame1 at7 b }
  | 2 => { f with frame2 := setBit f.frame2 at7 b }
  | 3 => { f with frame3 := setBit f.frame3 at7 b }
  | 4 => { f with frame4 := setBit f.frame4 at7 b }
  | _ => f

/-- The bit of frame position `i`: bit 7 - (i mod 8) of FRAME(i div 8) (spec/20_memory.md R46); `none` past position 39. -/
def RawFrame.bitAt (f : RawFrame) (i : Nat) : Option Bool :=
  (f.byte? (i / 8)).map fun v => v.getLsbD (7 - i % 8)

/-- BUILD: `FRAME0 ++ FRAME1 ++ FRAME2 ++ FRAME3`, FRAME0 in [31:24] (R108). -/
def RawFrame.build (f : RawFrame) : Word :=
  f.frame0 ++ f.frame1 ++ f.frame2 ++ f.frame3

/-- The two's complement value of a byte: `signed8` (spec/00_scope.md R8, spec/30_encoding.md R70).
PRESUMED by the spec itself (G1, log 17): safe for RSP_READING, which does not depend on it. -/
def signed8 (v : Byte) : Int :=
  if v.toNat < 128 then (v.toNat : Int) else (v.toNat : Int) - 256

/-- One measured quantity of a Reading: "{integral: signed 8-bit, fractional: unsigned 8-bit}" (spec/10_state.md R19). -/
structure Quantity where
  integral : Int
  fractional : Nat
deriving DecidableEq, Repr

/-- The Reading as the source types it (spec/10_state.md R19). -/
structure Reading where
  temperature : Quantity
  humidity : Quantity
deriving DecidableEq, Repr

/-- The four numbers of a packed Reading (spec/10_state.md R19, spec/30_encoding.md R70). No byte is scaled, range-checked or
changed. -/
def readingOf (w : Word) : Reading :=
  { temperature := ⟨signed8 (w.extractLsb' 8 8), (w.extractLsb' 0 8).toNat⟩
    humidity := ⟨signed8 (w.extractLsb' 24 8), (w.extractLsb' 16 8).toNat⟩ }

/-- A one-bit register's value from a one-bit vector. -/
def levelOf (v : BitVec 1) : Level := v.getLsbD 0

end Sys2Proof.Machine
end

