-- ==== Sys2Proof/Machine/Flags.lean ====
section
/-!
DEFINITION. The tests of the block. It has no arithmetic condition codes (spec/10_state.md R20): these are the comparisons its
rules make, all of them unsigned (spec/41_frame_decoder.md R113).
-/

namespace Sys2Proof.Machine

/-- The bit decision: 0 if c <= T_ONE, 1 if c > T_ONE (spec/41_frame_decoder.md R105). -/
def bitOfCount (p : Params) (c : Count) : Bool := p.tOne.ult c

/-- The 8-bit wrapping sum of the four data bytes; the carries are dropped (spec/41_frame_decoder.md R107). -/
def RawFrame.sum (f : RawFrame) : Byte := f.frame0 + f.frame1 + f.frame2 + f.frame3

/-- CHECK: FRAME4 = (FRAME0 + FRAME1 + FRAME2 + FRAME3) mod 256 (spec/41_frame_decoder.md R107). -/
def RawFrame.checksumOk (f : RawFrame) : Bool := f.frame4 == f.sum

/-- READ step a's test: T < T_SETTLE, unsigned (spec/42_handle_commands.md R125). -/
def belowSettle (p : Params) (t : Time) : Bool := t.ult p.tSettle

/-- The remaining settle time T_SETTLE - T as the hold counter takes it: 1 to T_SETTLE when T < T_SETTLE (R125). -/
def settleHold (p : Params) (t : Time) : HoldCount := (p.tSettle - t).setWidth 20

/-- READ step b's test: TSV[h] = 1 and ((T - LAST_TS[h]) mod 2^64) < T_THROTTLE, unsigned; false while TSV[h] = 0 whatever T
is (spec/42_handle_commands.md R126). -/
def Slot.throttled (c : Slot) (p : Params) (t : Time) : Bool := c.tsv && (t - c.lastTs).ult p.tThrottle

/-- BITI < N_BITS (spec/41_frame_decoder.md R100). -/
def moreBits (p : Params) (i : BitIndex) : Bool := i.ult p.nBits

/-- The least k with ALLOC[k] = 0, with its slot, if there is one (spec/42_handle_commands.md R120). -/
def firstFree : List Slot → Option (Nat × Slot)
  | [] => none
  | c :: rest =>
    if c.alloc then (firstFree rest).map fun kd => (kd.1 + 1, kd.2) else some (0, c)

end Sys2Proof.Machine
end

