-- ==== Sys2Proof/Machine/Ops.lean ====
section
/-!
DEFINITION. The shared operations on the state: the collaborator primitives (spec/00_scope.md R8, spec/20_memory.md R41 to
R45), the handle context file, one sample of WAIT (spec/40_signal_waiter.md R90), the entry into each phase, `respond` and
abort (spec/42_handle_commands.md R131, spec/60_exceptions.md R148), what the spec leaves unspecified (free values), the tick
and the block reset (spec/70_reset_and_hazards.md R160, R171).
-/

namespace Sys2Proof.Machine

/-- What a meaning answers. -/
abbrev Result := Host.Outcome State Fault Refusal

/-- The next state of an outcome, if it has one. -/
def nextState? : Result → Option State
  | .next s => some s
  | .fault _ => none
  | .refused _ => none

/-! ## The trace and the free values -/

/-- Append one event to the I/O event trace (spec/20_memory.md R51). -/
def State.emit (s : State) (e : Event) : State := { s with trace := e :: s.trace }

/-- The free value of place `place` at the state's present draw (log 4). Places are the register numbers S<n> of
spec/10_state.md; slot k's registers are at 100 + 100 * k + n, the input ports at 90 to 94. -/
def State.freeAt (s : State) (place w : Nat) : BitVec w := Config.free s.drawn place w

/-! ## The collaborators -/

/-- `PinDir(d)`: PIN_OE <- d (spec/20_memory.md R41). -/
def State.pinDir (s : State) (out : Bool) : State :=
  { s with pinOe := out, trace := .dir s.pinSel out :: s.trace }

/-- `PinSet(v)`: PIN_OUT <- v (spec/20_memory.md R41). -/
def State.pinSet (s : State) (v : Level) : State :=
  { s with pinOut := v, trace := .set s.pinSel v :: s.trace }

/-- `PinGet()`: the level of `pin_in` in this tick, one sample (spec/20_memory.md R43). -/
def State.pinLevel (s : State) : Level := s.inp.pinIn

/-- `T <- Now()` (spec/20_memory.md R44, spec/42_handle_commands.md R125). -/
def State.readNow (s : State) : State :=
  { s with t := s.inp.now, trace := .now s.inp.now :: s.trace }

/-! ## The handle context file -/

/-- The slot a handle field names: slots are numbered 0 to NHANDLES - 1 (spec/10_state.md R15). -/
def State.slot? (s : State) (h : Byte) : Option Slot := s.slots[h.toNat]?

/-- `0 <= H < NHANDLES` and ALLOC[H] = 1: the handle names a live slot. -/
def State.live (s : State) (h : Byte) : Bool :=
  match s.slot? h with
  | some c => c.alloc
  | none => false

/-- Write slot `k`; no other slot changes ("Slots share nothing", spec/10_state.md R15). -/
def State.putSlot (s : State) (k : Nat) (c : Slot) : State := { s with slots := s.slots.set k c }

/-- A live handle's slot as CREATE leaves it: the configuration copied, TSV = 0, RVALID = 0, LAST_TS and LAST_READING not
written (spec/42_handle_commands.md R120). -/
def Slot.created (c : Slot) (var : Variant) (pin : Byte) : Slot :=
  { c with alloc := true, cfgPin := pin, cfgVar := var, tsv := false, rvalid := false }

/-- DESTROY: ALLOC[H] <- 0; "its other registers are left as they are" (spec/42_handle_commands.md R122). -/
def Slot.destroyed (c : Slot) : Slot := { c with alloc := false }

/-- READ step c before the attempt: LAST_TS[h] <- T ; TSV[h] <- 1 (spec/42_handle_commands.md R127). -/
def Slot.attempted (c : Slot) (t : Time) : Slot := { c with lastTs := t, tsv := true }

/-- READ step c on success: LAST_READING[h] <- rd ; RVALID[h] <- 1 (spec/42_handle_commands.md R127). -/
def Slot.stored (c : Slot) (rd : Word) : Slot := { c with lastReading := rd, rvalid := true }

/-! ## Phases: entering, responding, aborting -/

/-- The sequencer moves to a phase: `PHASE <- target` (spec/00_scope.md R8). -/
def State.goto (s : State) (p : Phase) : State := { s with phase := p }

/-- A hold of `n` ticks is set up and its phase entered: HOLDC counts the ticks left (spec/10_state.md R14). -/
def State.startHold (s : State) (p : Phase) (n : HoldCount) : State := { s with phase := p, holdc := n }

/-- `Hold(n)` begins: its event, whole (spec/20_memory.md R45, R51 give its place in the order). DESIGN CHOICE (log 26): the event
enters the trace, with its full n, in the tick in which the hold begins, so a reset in mid-hold leaves it there; a hold of
length 0 leaves its event like any other. -/
def State.holdEvent (s : State) (n : HoldCount) : State := s.emit (.hold n.toNat)

/-- One tick of a hold passes: "no register but HOLDC changes" (spec/20_memory.md R45). -/
def State.holdTick (s : State) : State := { s with holdc := s.holdc - 1#20 }

/-- WAIT(e, B) begins: EXP <- e ; BUD <- B ; CNT <- 0 (spec/40_signal_waiter.md R90). -/
def State.startWait (s : State) (p : Phase) (e : Level) (b : Count) : State :=
  { s with phase := p, exp := e, bud := b, cnt := 0#7 }

/-- Enter START_LOW: the hold of T_START_LOW (spec/41_frame_decoder.md R101). -/
def State.enterStartLow (s : State) : State := s.startHold .startLow s.params.tStartLow

/-- Enter START_HIGH: the hold of T_START_HIGH (spec/41_frame_decoder.md R101). -/
def State.enterStartHigh (s : State) : State := s.startHold .startHigh s.params.tStartHigh

/-- Enter ACK_LOW: WAIT(0, T_ACK) (spec/41_frame_decoder.md R103). -/
def State.enterAckLow (s : State) : State := s.startWait .ackLow false s.params.tAck

/-- Enter ACK_HIGH: WAIT(1, T_ACK) (spec/41_frame_decoder.md R103). -/
def State.enterAckHigh (s : State) : State := s.startWait .ackHigh true s.params.tAck

/-- Enter BIT_LOW: WAIT(0, T_BIT_LOW) of bit BITI (spec/41_frame_decoder.md R104). -/
def State.enterBitLow (s : State) : State := s.startWait .bitLow false s.params.tBitLow

/-- Enter BIT_HIGH: WAIT(1, T_BIT_HIGH) of bit BITI (spec/41_frame_decoder.md R104). -/
def State.enterBitHigh (s : State) : State := s.startWait .bitHigh true s.params.tBitHigh

/-- `respond(status, handle, reading)`: control goes to RESPOND, which delivers the response
(spec/42_handle_commands.md R131). -/
def State.respond (s : State) (r : Response) : State := { s with phase := .respond, rspArgs := r }

/-- THE ABORT, what stands for taking an exception (spec/60_exceptions.md R148): no further step of the operation runs,
control goes to RESPOND with the status, nothing is saved, and no error records anything (R145). -/
def State.abort (s : State) (status : Status) : State := s.respond ⟨status, none, none⟩

/-- THE RETURN beside it (spec/60_exceptions.md R150, spec/42_handle_commands.md R131): RESPOND delivers the response (the
three registers, RSP_VALID, the Rsp event), then PHASE <- IDLE. A handle or reading that is not given leaves its register
unspecified: a free value (spec/93 U10, log 4). -/
def State.deliver (s : State) : State :=
  { s with
    rspStatus := s.rspArgs.status.code
    rspHandle := s.rspArgs.handle.getD (s.freeAt 19 8)
    rspReading := s.rspArgs.reading.getD (s.freeAt 20 32)
    rspValid := true
    drawn := s.drawn + 1
    trace := .rsp s.rspArgs :: s.trace
    phase := .idle }

/-- "FRAME0 to FRAME4, BITI, CNT, EXP, BUD, HOLDC unspecified (discarded ...)" after ACQUIRE, whatever its outcome
(spec/41_frame_decoder.md R110, spec/93 U8): free values (log 4). -/
def State.discardFrame (s : State) : State :=
  { s with
    biti := s.freeAt 1 6
    holdc := s.freeAt 5 20
    cnt := s.freeAt 6 7
    exp := levelOf (s.freeAt 7 1)
    bud := s.freeAt 8 7
    frame := ⟨s.freeAt 9 8, s.freeAt 10 8, s.freeAt 11 8, s.freeAt 12 8, s.freeAt 13 8⟩
    drawn := s.drawn + 1 }

/-- ACQUIRE returns Fail and READ responds FAIL: the frame is discarded, the cache unchanged (spec/41 R100,
spec/42_handle_commands.md R127, spec/60_exceptions.md R144). -/
def State.acquireFail (s : State) : State := s.discardFrame.abort .fail

/-! ## One sample of WAIT -/

/-- What one iteration of WAIT's loop says (spec/40_signal_waiter.md R90). -/
inductive WaitResult where
  /-- The loop goes on. -/
  | running
  /-- `Ok(c)`: the level has changed. -/
  | done (c : Count)
  /-- B + 1 samples were all equal to e. -/
  | timeout
deriving DecidableEq, Repr

/-- The loop's test on the sample of this tick: a level that differs from EXP ends the wait with CNT; else at CNT = BUD it is
a Timeout; else the loop goes on (spec/40_signal_waiter.md R90). -/
def State.waitResult (s : State) : WaitResult :=
  if s.pinLevel ≠ s.exp then .done s.cnt
  else if s.cnt = s.bud then .timeout
  else .running

/-- The sample of this tick, consumed: its event (spec/20_memory.md R43, R51). -/
def State.sample (s : State) : State := s.emit (.get s.pinSel s.pinLevel)

/-- One tick of a WAIT in its phase: sample; go on with CNT + 1, leave by `onDone` with the count, or abort the acquisition
on a Timeout, which ACQUIRE turns into Fail (spec/40_signal_waiter.md R90, spec/41_frame_decoder.md R100). -/
def State.waitTick (s : State) (onDone : State → Count → State) : State :=
  match s.waitResult with
  | .running => { s.sample with cnt := s.cnt + 1#7 }
  | .done c => onDone s.sample c
  | .timeout => s.sample.acquireFail

/-! ## The command port -/

/-- Acceptance: CMD <- cmd_word and the event Cmd(word) (spec/42_handle_commands.md R130). The ticks of OVH the command will spend
are drawn here (spec/00_scope.md R6; log 6). -/
def State.accept (s : State) (w : Word) : State :=
  { s with cmd := w, ovhLeft := Config.ovh s.drawn, drawn := s.drawn + 1, trace := .cmd w :: s.trace }

/-- One tick of OVH passes in RESPOND: nothing else changes (log 6). -/
def State.ovhTick (s : State) : State := { s with ovhLeft := s.ovhLeft - 1 }

/-! ## The tick and the block reset -/

/-- RSP_VALID is 1 for the one tick in which a response is delivered and 0 otherwise (spec/10_state.md R22): every tick begins
with it at 0, and only the delivery sets it. -/
def State.beginTick (s : State) : State := { s with rspValid := false }

/-- Free input levels: the oracles' answers in a tick for which none are given (spec/00_scope.md R4, log 1). -/
def State.freeInputs (s : State) : Inputs :=
  { rst := levelOf (s.freeAt 90 1)
    cmdValid := levelOf (s.freeAt 91 1)
    cmdWord := s.freeAt 92 32
    pinIn := levelOf (s.freeAt 93 1)
    now := s.freeAt 94 64 }

/-- The tick is over: the next tick's input levels are on the ports (spec/20_memory.md R40, R56). -/
def State.nextTick (s : State) : State :=
  match s.inputs with
  | i :: rest => { s with inp := i, inputs := rest }
  | [] => { s with inp := s.freeInputs, drawn := s.drawn + 1 }

/-- Slot `k` after the block reset that is draw `draw`: ALLOC[k] = 0, every other register unspecified
(spec/70_reset_and_hazards.md R160): free values (log 4). -/
def Slot.afterReset (draw k : Nat) : Slot :=
  { alloc := false
    cfgPin := Config.free draw (133 + 100 * k) 8
    cfgVar := Variant.ofBit (levelOf (Config.free draw (134 + 100 * k) 1))
    tsv := levelOf (Config.free draw (135 + 100 * k) 1)
    lastTs := Config.free draw (136 + 100 * k) 64
    rvalid := levelOf (Config.free draw (137 + 100 * k) 1)
    lastReading := Config.free draw (138 + 100 * k) 32 }

/-- The slots from number `k` on after block reset: as many as before, each of them free. -/
def resetSlots (draw k : Nat) : List Slot → List Slot
  | [] => []
  | _ :: rest => Slot.afterReset draw k :: resetSlots draw (k + 1) rest

/-- Block reset (spec/70_reset_and_hazards.md R160, R171): the command is abandoned without a response, PHASE = IDLE, PIN_OE =
0, PIN_OUT = 1, RSP_VALID = 0, every slot free; every other register unspecified: free values (log 4). The input ports,
the trace and the parameters are not the block's. -/
def State.blockReset (s : State) : State :=
  { s with
    phase := .idle
    biti := s.freeAt 1 6
    cmd := s.freeAt 2 32
    h := s.freeAt 3 8
    t := s.freeAt 4 64
    holdc := s.freeAt 5 20
    cnt := s.freeAt 6 7
    exp := levelOf (s.freeAt 7 1)
    bud := s.freeAt 8 7
    frame := ⟨s.freeAt 9 8, s.freeAt 10 8, s.freeAt 11 8, s.freeAt 12 8, s.freeAt 13 8⟩
    pinSel := s.freeAt 14 8
    pinOe := false
    pinOut := true
    rspValid := false
    rspStatus := s.freeAt 18 3
    rspHandle := s.freeAt 19 8
    rspReading := s.freeAt 20 32
    slots := resetSlots s.drawn 0 s.slots
    ovhLeft := 0
    drawn := s.drawn + 1 }

/-! ## The ports -/

/-- `cmd_ready` is 1 exactly when PHASE = IDLE (spec/10_state.md R12). -/
def State.cmdReady (s : State) : Bool := s.phase == .idle

/-- The output ports in a tick that finds state `s` and leaves state `s'` (spec/20_memory.md R40): a pin operation and a
response "take effect in the tick in which the sequencer executes" them (R41), `cmd_ready` is the phase the tick finds, and 1
while `rst` = 1 (spec/70_reset_and_hazards.md R160). -/
def outputsOf (s s' : State) : Outputs :=
  { cmdReady := s.inp.rst || s.cmdReady
    rspValid := s'.rspValid
    rspStatus := s'.rspStatus
    rspHandle := s'.rspHandle
    rspReading := s'.rspReading
    pinSel := s'.pinSel
    pinOe := s'.pinOe
    pinOut := s'.pinOut }

/-- A tick placed at phase `p` with the phase's working registers as its entry leaves them, no reset and no command offered:
what `State.withFetchWord` needs to have the next step run exactly the instruction of `p` (log 14). -/
def State.placeAt (s : State) (p : Phase) : State :=
  let s0 := { s with ovhLeft := 0, inp := { s.inp with rst := false, cmdValid := false } }
  match p with
  | .idle => s0.goto .idle
  | .settle => s0.goto .settle
  | .startLow => s0.enterStartLow
  | .startHigh => s0.enterStartHigh
  | .ackLow => s0.enterAckLow
  | .ackHigh => s0.enterAckHigh
  | .bitLow => s0.enterBitLow
  | .bitHigh => s0.enterBitHigh
  | .check => s0.goto .check
  | .respond => s0.goto .respond

/-- A tick placed in IDLE with the command word offered and no reset (log 14). -/
def State.offer (s : State) (w : Word) : State :=
  { s with phase := .idle, inp := { s.inp with rst := false, cmdValid := true, cmdWord := w } }

end Sys2Proof.Machine
end

