-- ==== Sys2Proof/Machine/Acquire.lean ====
section
/-!
DEFINITION. The phases of ACQUIRE (spec/41_frame_decoder.md R100 to R113): one definition per PHASE row, each one tick of its
phase. The transitions are those of the phase graph R111.
-/

namespace Sys2Proof.Machine

/-- START's pin operations of START_LOW for Type11: PIN_SEL <- CFG_PIN[h], `PinDir(OUT)`, `PinSet(0)` in one tick, and
`Hold(T_START_LOW)` begins (R100, R101). DESIGN CHOICE (log 26): a hold of length 0 leaves its event too. -/
def State.driveLow (s : State) (c : Slot) : State :=
  (({ s with pinSel := c.cfgPin }.pinDir true).pinSet false).holdEvent s.params.tStartLow

/-- `PinSet(1)`, and `Hold(T_START_HIGH)` begins (R101). DESIGN CHOICE (log 26): a hold of length 0 leaves its event too. -/
def State.driveHigh (s : State) : State := (s.pinSet true).holdEvent s.params.tStartHigh

/-- A tick of START_HIGH: one tick of the hold, or, after its T_START_HIGH ticks, `PinDir(IN)`, and the next tick takes sample p[0]
(R101, spec/20_memory.md R56). -/
def State.startHighTick (s : State) : State :=
  if s.holdc = 0#20 then (s.pinDir false).enterAckLow else s.holdTick

/-- The first tick of START_HIGH (R101). A hold of length 0 is nothing (spec/20_memory.md R45): `PinDir(IN)` falls in this tick. -/
def State.startHighFirst (s : State) : State := s.driveHigh.startHighTick

/-- A tick of START_LOW's hold; with its last tick the phase is over (R111: T_START_LOW ticks held). -/
def State.startLowTick (s : State) : State :=
  if s.holdc.toNat ≤ 1 then s.enterStartHigh else s.holdTick

/-- The first tick of START_LOW (R101). A hold of length 0 is nothing (spec/20_memory.md R45): no tick passes in the phase, and
this tick is the first of START_HIGH as well. -/
def State.startLowFirst (s : State) (c : Slot) : State :=
  if s.params.tStartLow = 0#20 then (s.driveLow c).enterStartHigh.startHighFirst else (s.driveLow c).startLowTick

/-- PHASE_START_LOW: in the phase's first tick (HOLDC full) START drives the line low; the phase lasts T_START_LOW ticks
(R101). A Type22 configuration has no start sequence: refused (R102). -/
def execPhaseStartLow (s : State) : Result :=
  match s.slot? s.h with
  | none => .fault .noSuchSlot
  | some c =>
    if s.holdc = s.params.tStartLow then
      if c.cfgVar = .type22 then .refused .startType22
      else .next (s.startLowFirst c)
    else .next s.startLowTick

/-- PHASE_START_HIGH: in the phase's first tick (HOLDC full) START drives the line high; the phase lasts T_START_HIGH ticks and
ends with `PinDir(IN)` (R101). -/
def execPhaseStartHigh (s : State) : Result :=
  if s.holdc = s.params.tStartHigh then .next s.startHighFirst else .next s.startHighTick

/-- PHASE_ACK_LOW: WAIT(0, T_ACK); its count is discarded (R103). -/
def execPhaseAckLow (s : State) : Result :=
  .next (s.waitTick fun s' _ => s'.enterAckHigh)

/-- The head of the bit loop: the next bit while BITI < N_BITS, else CHECK (R100, R111). -/
def State.bitLoop (s : State) : State :=
  if moreBits s.params s.biti then s.enterBitLow else s.goto .check

/-- PHASE_ACK_HIGH: WAIT(1, T_ACK); then BITI <- 0 and the bit loop (R100, R103, R111). -/
def execPhaseAckHigh (s : State) : Result :=
  .next (s.waitTick fun s' _ => { s' with biti := 0#6 }.bitLoop)

/-- PHASE_BIT_LOW: WAIT(0, T_BIT_LOW); its count is discarded (R104). -/
def execPhaseBitLow (s : State) : Result :=
  .next (s.waitTick fun s' _ => s'.enterBitHigh)

/-- The bit of position BITI is decided, stored and BITI incremented (R105, R106); then the loop's head again (R100). -/
def State.storeBit (s : State) (c : Count) : State :=
  { s with frame := s.frame.storeBit s.biti (bitOfCount s.params c), biti := s.biti + 1#6 }.bitLoop

/-- PHASE_BIT_HIGH: WAIT(1, T_BIT_HIGH), the measured high phase; then the bit (R104, R105, R106). -/
def execPhaseBitHigh (s : State) : Result :=
  .next (s.waitTick State.storeBit)

/-- PHASE_CHECK: the checksum test; on success BUILD, LAST_READING[h] and RVALID[h], and OK with the Reading; else FAIL
(R107, R108, spec/42_handle_commands.md R127). The frame is discarded either way (R110).
DESIGN CHOICE (log 27): with N_BITS below 40 the frame bits that no store of the acquisition wrote are read as the registers
hold them. -/
def execPhaseCheck (s : State) : Result :=
  if s.frame.checksumOk then
    match s.slot? s.h with
    | none => .fault .noSuchSlot
    | some c =>
      .next ((s.putSlot s.h.toNat (c.stored s.frame.build)).discardFrame.respond ⟨.ok, none, some s.frame.build⟩)
  else .next s.acquireFail

end Sys2Proof.Machine
end

