-- ==== Sys2Proof/Machine/Commands.lean ====
section
/-!
DEFINITION. The three commands and the answer to a reserved word (spec/42_handle_commands.md R120 to R127,
spec/30_encoding.md R64). A meaning runs in the tick of acceptance, on the state that acceptance leaves (R130).
-/

namespace Sys2Proof.Machine

/-- CREATE (R120): CP = 0 is INVALID_ARG; then VAR = 1 is rule R121 (refused, its response is not specified); then no free
slot is NO_MEM; else the least free slot is allocated and its index returned. No collaborator operation in any outcome. -/
def execCreate (cp : Bool) (var : Variant) (pin : Nat) (s : State) : Result :=
  if cp = false then .next (s.abort .invalidArg)
  else if var = .type22 then .refused .createType22
  else
    match firstFree s.slots with
    | none => .next (s.abort .noMem)
    | some (k, c) =>
      .next ((({ s with h := BitVec.ofNat 8 k }).putSlot k (c.created var (BitVec.ofNat 8 pin))).respond
        ⟨.ok, some (BitVec.ofNat 8 k), none⟩)

/-- DESTROY (R122): an absent handle and a slot that is not live are undefined (R123: faults); else ALLOC[H] <- 0. -/
def execDestroy (hp : Bool) (h : Nat) (s : State) : Result :=
  if hp = false then .fault .destroyAbsentHandle
  else
    match s.slot? (BitVec.ofNat 8 h) with
    | none => .fault .destroyDeadHandle
    | some c =>
      if c.alloc then
        .next ((({ s with h := BitVec.ofNat 8 h }).putSlot (BitVec.ofNat 8 h : Byte).toNat c.destroyed).respond
          ⟨.ok, none, none⟩)
      else .fault .destroyDeadHandle

/-- READ steps b and c with the slot's registers at hand (R126, R127): throttled with a Reading, OK from the cache; throttled
without, FAIL; else LAST_TS[h] <- T, TSV[h] <- 1 and the acquisition begins. -/
def State.readSlot (s : State) (c : Slot) : State :=
  if c.throttled s.params s.t then
    if c.rvalid then s.respond ⟨.ok, none, some c.lastReading⟩ else s.abort .fail
  else (s.putSlot s.h.toNat (c.attempted s.t)).enterStartLow

/-- READ from its first `Now()` on (R125): below T_SETTLE the remaining time is held in SETTLE; else steps b and c follow. -/
def State.readFrom (s : State) (c : Slot) : State :=
  let s1 := s.readNow
  if belowSettle s.params s1.t then
    (s1.holdEvent (settleHold s.params s1.t)).startHold .settle (settleHold s.params s1.t)
  else s1.readSlot c

/-- READ (R124): an absent handle or destination is INVALID_ARG before any I/O; a slot that is not live is undefined (R123:
fault); then H <- w.H and step a. -/
def execRead (hp dp : Bool) (h : Nat) (s : State) : Result :=
  if hp = false ∨ dp = false then .next (s.abort .invalidArg)
  else
    match s.slot? (BitVec.ofNat 8 h) with
    | none => .fault .readDeadHandle
    | some c =>
      if c.alloc then .next ({ s with h := BitVec.ofNat 8 h }.readFrom c)
      else .fault .readDeadHandle

/-- A reserved word: no collaborator operation, no register of the handle context file, status INVALID_ARG
(spec/30_encoding.md R64). -/
def State.rejectWord (s : State) : State := s.abort .invalidArg

end Sys2Proof.Machine
end

