-- ==== Sys2Proof/Machine/Sequencer.lean ====
section
/-!
DEFINITION. The phases of the command level: IDLE (acceptance and decode), SETTLE and RESPOND (spec/42_handle_commands.md
R125, R130, R131, R132).
-/

namespace Sys2Proof.Machine

/-- "the command's rule starts": an accepted word goes by its decode to the rule of its command, a reserved word to its
answer (R130, R132). The decoder gives a command word no PHASE row; the last arm is never taken. -/
def execDecoded (d : Except DecodeError Instr) (s : State) : Result :=
  match d with
  | .ok (.create cp var pin) => execCreate cp var pin s
  | .ok (.read hp dp h) => execRead hp dp h s
  | .ok (.destroy hp h) => execDestroy hp h s
  | .ok _ => .next s.rejectWord
  | .error _ => .next s.rejectWord

/-- PHASE_IDLE (R130): with `cmd_valid` = 1 the word is accepted and its command starts in the same tick; else nothing. -/
def execPhaseIdle (s : State) : Result :=
  if s.inp.cmdValid then execDecoded (decodeCommand s.inp.cmdWord) (s.accept s.inp.cmdWord)
  else .next s

/-- PHASE_SETTLE (R125): one tick of Hold(T_SETTLE - T); when the hold is over, the second `Now()`, which is not tested
against T_SETTLE, and steps b and c. -/
def execPhaseSettle (s : State) : Result :=
  if s.holdc = 0#20 then
    match s.slot? s.h with
    | none => .fault .noSuchSlot
    | some c => .next (s.readNow.readSlot c)
  else .next s.holdTick

/-- PHASE_RESPOND (R131): after the command's ticks of OVH (spec/70_reset_and_hazards.md R170: "decode, the checks, the response"; log
6) the response registers, RSP_VALID for this tick, the Rsp event, then IDLE. -/
def execPhaseRespond (s : State) : Result :=
  if s.ovhLeft = 0 then .next s.deliver else .next s.ovhTick

end Sys2Proof.Machine
end

