-- ==== Sys2Proof/Machine/Dispatch.lean ====
section
/-!
DEFINITION. One arm per instruction: which meaning it has.
-/

namespace Sys2Proof.Machine

def exec (i : Instr) (s : State) : Host.Outcome State Fault Refusal :=
  match i with
  | .create cp var pin => Sys2Proof.Machine.execCreate cp var pin s
  | .read hp dp h => Sys2Proof.Machine.execRead hp dp h s
  | .destroy hp h => Sys2Proof.Machine.execDestroy hp h s
  | .phaseIdle => Sys2Proof.Machine.execPhaseIdle s
  | .phaseSettle => Sys2Proof.Machine.execPhaseSettle s
  | .phaseStartLow => Sys2Proof.Machine.execPhaseStartLow s
  | .phaseStartHigh => Sys2Proof.Machine.execPhaseStartHigh s
  | .phaseAckLow => Sys2Proof.Machine.execPhaseAckLow s
  | .phaseAckHigh => Sys2Proof.Machine.execPhaseAckHigh s
  | .phaseBitLow => Sys2Proof.Machine.execPhaseBitLow s
  | .phaseBitHigh => Sys2Proof.Machine.execPhaseBitHigh s
  | .phaseCheck => Sys2Proof.Machine.execPhaseCheck s
  | .phaseRespond => Sys2Proof.Machine.execPhaseRespond s

end Sys2Proof.Machine
end

