-- ==== Sys2Proof/Machine/Step.lean ====
section
/-!
DEFINITION. One step is one tick of the sequencer (spec/00_scope.md R6): block reset when `rst` = 1
(spec/70_reset_and_hazards.md R160, R171), else the instruction of PHASE; then the next tick's input levels.
-/

namespace Sys2Proof.Machine

def step (s : State) : Host.Outcome State Fault Refusal :=
  if s.inp.rst then .next s.blockReset.nextTick
  else
    match exec s.phase.instr s.beginTick with
    | .next s' => .next s'.nextTick
    | .fault r => .fault r
    | .refused r => .refused r

/-- `s` with an instruction placed where `step` takes its next one: a command word offered on the command port in IDLE, or
PHASE at a phase's code (log 14). -/
def State.withFetchWord (s : State) (nbits w : Nat) : State :=
  match codeOfTableWord nbits w with
  | some (.command x) => s.offer x
  | some (.phase c) =>
    match Phase.ofCode c with
    | some p => s.placeAt p
    | none => s
  | none => s

end Sys2Proof.Machine
end

