-- ==== Sys2Proof/Machine/CommandText.lean ====
section
/-!
DEFINITION. The one-line text of commands and responses (spec/30_encoding.md R72, R73): "One command per line, fields in any
order after the mnemonic, `#` starts a comment". The text is a list of characters; it is no state of the block.
-/

namespace Sys2Proof.Machine

/-- The word read so far, if it is not empty. -/
def closeWord (acc : List Char) : List (List Char) := if acc.isEmpty then [] else [acc.reverse]

/-- The words of a line: separated by blanks, up to a `#` (R72). `acc` is the word being read, last character first. -/
def wordsOf : List Char → List Char → List (List Char)
  | [], acc => closeWord acc
  | c :: cs, acc =>
    if c = '#' then closeWord acc
    else if c = ' ' ∨ c = '\t' then closeWord acc ++ wordsOf cs []
    else wordsOf cs (c :: acc)

/-- The rest of a word after its key, `pin=` or the like. -/
def afterKey : List Char → List Char → Option (List Char)
  | [], rest => some rest
  | _ :: _, [] => none
  | k :: ks, c :: cs => if k = c then afterKey ks cs else none

def digitOf (c : Char) : Option Nat := if '0' ≤ c ∧ c ≤ '9' then some (c.toNat - 48) else none

/-- A decimal number (R7) read onto `n`. -/
def numberOnto (n : Nat) : List Char → Option Nat
  | [] => some n
  | c :: cs =>
    match digitOf c with
    | some d => numberOnto (10 * n + d) cs
    | none => none

/-- `<0..255>` (R72). -/
def byteNumber (cs : List Char) : Option Nat :=
  if cs.isEmpty then none
  else
    match numberOnto 0 cs with
    | some n => if n < 256 then some n else none
    | none => none

def fieldNumber (key : String) (w : List Char) : Option Nat :=
  match afterKey key.toList w with
  | some cs => byteNumber cs
  | none => none

def variantField (w : List Char) : Option Variant :=
  if w = "var=T11".toList then some .type11
  else if w = "var=T22".toList then some .type22
  else none

def createOf (pinWord varWord : List Char) : Option Instr :=
  match fieldNumber "pin=" pinWord, variantField varWord with
  | some p, some v => some (.create true v p)
  | _, _ => none

/-- The fields of CREATE: `pin=<n> var=T11|T22` in any order, or `NULL` (R72, R73). -/
def parseCreate : List (List Char) → Option Instr
  | [a] => if a = "NULL".toList then some (.create false .type11 0) else none
  | [a, b] => (createOf a b).orElse fun _ => createOf b a
  | _ => none

def readNullDst (hWord dstWord : List Char) : Option Instr :=
  if dstWord = "dst=NULL".toList then (fieldNumber "h=" hWord).map fun n => .read true false n else none

/-- The fields of READ: `h=<n>`, `NULL`, or `h=<n> dst=NULL` (R72, R73). -/
def parseRead : List (List Char) → Option Instr
  | [a] => if a = "NULL".toList then some (.read false true 0) else (fieldNumber "h=" a).map fun n => .read true true n
  | [a, b] => (readNullDst a b).orElse fun _ => readNullDst b a
  | _ => none

/-- The fields of DESTROY: `h=<n>` or `NULL` (R72, R73). -/
def parseDestroy : List (List Char) → Option Instr
  | [a] => if a = "NULL".toList then some (.destroy false 0) else (fieldNumber "h=" a).map fun n => .destroy true n
  | _ => none

/-- The command one line of text stands for; `none` for a line that is no command (R72, R73; log 21). -/
def parseCommand (line : List Char) : Option Instr :=
  match wordsOf line [] with
  | [] => none
  | m :: fields =>
    if m = "CREATE".toList then parseCreate fields
    else if m = "READ".toList then parseRead fields
    else if m = "DESTROY".toList then parseDestroy fields
    else none

def digitChar (d : Nat) : Char := Char.ofNat (48 + d)

/-- A number 0 to 999 in decimal (R7). -/
def decimal (n : Nat) : List Char :=
  if n < 10 then [digitChar n]
  else if n < 100 then [digitChar (n / 10), digitChar (n % 10)]
  else [digitChar (n / 100), digitChar (n / 10 % 10), digitChar (n % 10)]

def signedDecimal (i : Int) : List Char := if i < 0 then '-' :: decimal i.natAbs else decimal i.natAbs

def quantityText (q : Quantity) : List Char :=
  '(' :: signedDecimal q.integral ++ [','] ++ decimal q.fractional ++ [')']

/-- The braces of a written Reading, U+007B and U+007D. -/
def readingText (r : Reading) : List Char :=
  Char.ofNat 123 :: "hum:".toList ++ quantityText r.humidity ++ " temp:".toList ++ quantityText r.temperature ++
    [Char.ofNat 125]

/-- A response as R72 writes it; TIMEOUT is no response (R67). -/
def responseText (r : Response) : Option (List Char) :=
  match r.status with
  | .ok =>
    match r.handle, r.reading with
    | some h, _ => some ("-> OK h=".toList ++ decimal h.toNat)
    | none, some w => some ("-> OK ".toList ++ readingText (readingOf w))
    | none, none => some "-> OK".toList
  | .fail => some "-> FAIL".toList
  | .invalidArg => some "-> INVALID_ARG".toList
  | .noMem => some "-> NO_MEM".toList
  | .timeout => none

end Sys2Proof.Machine
end

