-- ==== Sys2Proof/Safety.lean ====
section
/-!
DEFINITION. The terms in which claims are made: the invariant of a run, the phases in which a command works on a slot, the
duration of what is left of a command (spec/70_reset_and_hazards.md R170), the pin operations of a trace, runs of several
ticks and the levels the line carries in them.
-/

namespace Sys2Proof

/-- PHASE is inside a command that works on slot H. -/
def Phase.working : Phase → Bool
  | .idle => false
  | .settle => true
  | .startLow => true
  | .startHigh => true
  | .ackLow => true
  | .ackHigh => true
  | .bitLow => true
  | .bitHigh => true
  | .check => true
  | .respond => false

/-- PHASE is in the start signal, the only time the block drives the line (spec/70_reset_and_hazards.md R169). -/
def Phase.starting : Phase → Bool
  | .startLow => true
  | .startHigh => true
  | .idle => false
  | .settle => false
  | .ackLow => false
  | .ackHigh => false
  | .bitLow => false
  | .bitHigh => false
  | .check => false
  | .respond => false

/-- PHASE is inside ACQUIRE: READ has opened the slot's window (spec/41_frame_decoder.md R111, spec/42 R127). -/
def Phase.acquiring : Phase → Bool
  | .startLow => true
  | .startHigh => true
  | .ackLow => true
  | .ackHigh => true
  | .bitLow => true
  | .bitHigh => true
  | .check => true
  | .idle => false
  | .settle => false
  | .respond => false

/-- PHASE is a WAIT (spec/40_signal_waiter.md R90). -/
def Phase.waiting : Phase → Bool
  | .ackLow => true
  | .ackHigh => true
  | .bitLow => true
  | .bitHigh => true
  | .idle => false
  | .settle => false
  | .startLow => false
  | .startHigh => false
  | .check => false
  | .respond => false

/-- The level a WAIT's phase expects; of no account elsewhere (spec/41_frame_decoder.md R103, R104). -/
def Phase.expected : Phase → Level
  | .ackLow => false
  | .ackHigh => true
  | .bitLow => false
  | .bitHigh => true
  | .idle => false
  | .settle => false
  | .startLow => false
  | .startHigh => false
  | .check => false
  | .respond => false

/-- The budget of a WAIT's phase; of no account elsewhere (spec/41_frame_decoder.md R103, R104). -/
def Phase.budget (p : Params) : Phase → Count
  | .ackLow => p.tAck
  | .ackHigh => p.tAck
  | .bitLow => p.tBitLow
  | .bitHigh => p.tBitHigh
  | .idle => 0#7
  | .settle => 0#7
  | .startLow => 0#7
  | .startHigh => 0#7
  | .check => 0#7
  | .respond => 0#7

/-- The largest HOLDC a phase of hold can show; `none` for a phase that is no hold (spec/20_memory.md R45, spec/41_frame_decoder.md
R101, spec/42_handle_commands.md R125). -/
def Phase.longestHold (p : Params) : Phase → Option Nat
  | .settle => some p.tSettle.toNat
  | .startLow => some p.tStartLow.toNat
  | .startHigh => some p.tStartHigh.toNat
  | .idle => none
  | .ackLow => none
  | .ackHigh => none
  | .bitLow => none
  | .bitHigh => none
  | .check => none
  | .respond => none

/-! ## Durations as the table of spec/70_reset_and_hazards.md R170 adds them up -/

/-- ACK, both phases, longest: T_ACK + 1 samples twice; 162 with the defaults. -/
def Params.ackTicks (p : Params) : Nat := 2 * (p.tAck.toNat + 1)

/-- One bit, longest: T_BIT_LOW + 1 and T_BIT_HIGH + 1 samples; 122 with the defaults. -/
def Params.bitTicks (p : Params) : Nat := (p.tBitLow.toNat + 1) + (p.tBitHigh.toNat + 1)

/-- All bits, longest; 4880 with the defaults. -/
def Params.frameTicks (p : Params) : Nat := p.nBits.toNat * p.bitTicks

/-- START; 20040 with the defaults. -/
def Params.startTicks (p : Params) : Nat := p.tStartLow.toNat + p.tStartHigh.toNat

/-- A complete acquisition, longest; 25082 with the defaults. -/
def Params.acquisitionTicks (p : Params) : Nat := p.startTicks + p.ackTicks + p.frameTicks

end Sys2Proof

namespace Sys2Proof.Machine

/-- A slot no run contradicts: a live slot is Type11 (spec/42_handle_commands.md R121), and RVALID = 1 implies TSV = 1
(spec/10_state.md R18). -/
structure Slot.Sound (c : Slot) : Prop where
  type11 : c.alloc = true → c.cfgVar = .type11
  timed : c.alloc = true → c.rvalid = true → c.tsv = true

/-- The invariant of every run. -/
structure State.Inv (s : State) : Prop where
  /-- The parameters fit the block's registers (log 19). -/
  params : s.params.fits = true
  /-- NHANDLES is 1 to 256 (spec/00_scope.md R6). -/
  handles : 1 ≤ s.slots.length ∧ s.slots.length ≤ 256
  /-- Every slot is sound. -/
  slots : ∀ c ∈ s.slots, c.Sound
  /-- A command inside READ works on a live slot, inside ACQUIRE one whose window it has opened (spec/41_frame_decoder.md
  R100, spec/42_handle_commands.md R127). -/
  working : s.phase.working = true →
    ∃ c, s.slots[s.h.toNat]? = some c ∧ c.alloc = true ∧ (s.phase.acquiring = true → c.tsv = true)
  /-- PIN_OE = 1 only in the start signal (spec/70_reset_and_hazards.md R169). -/
  drives : s.pinOe = true → s.phase.starting = true
  /-- PIN_OUT = 0 only in the start signal (spec/10_state.md R21, spec/41_frame_decoder.md R110). -/
  idleHigh : s.pinOut = false → s.phase.starting = true
  /-- After its first tick START_LOW drives the line low (spec/41_frame_decoder.md R101). -/
  low : s.phase = .startLow → s.holdc ≠ s.params.tStartLow → s.pinOe = true ∧ s.pinOut = false
  /-- START_HIGH drives the line, after its first tick high (spec/41_frame_decoder.md R101). -/
  high : s.phase = .startHigh → s.pinOe = true ∧ (s.holdc ≠ s.params.tStartHigh → s.pinOut = true)
  /-- HOLDC is at most the phase's hold. -/
  held : ∀ n, s.phase.longestHold s.params = some n → s.holdc.toNat ≤ n
  /-- START_LOW is left with its last tick. -/
  lowHeld : s.phase = .startLow → s.holdc ≠ s.params.tStartLow → s.holdc ≠ 0#20
  /-- A WAIT's registers are those of its phase and "CNT never exceeds B" (spec/40_signal_waiter.md R90). -/
  waits : s.phase.waiting = true → s.exp = s.phase.expected ∧ s.bud = s.phase.budget s.params ∧ s.cnt ≤ s.phase.budget s.params
  /-- The loop runs for BITI = 0 to N_BITS - 1 (spec/41_frame_decoder.md R104). -/
  bits : s.phase = .bitLow ∨ s.phase = .bitHigh → s.biti < s.params.nBits
  /-- CHECK comes after N_BITS bits (spec/41_frame_decoder.md R111). -/
  allBits : s.phase = .check → s.biti = s.params.nBits
  /-- TIMEOUT never reaches the response (spec/60_exceptions.md R143). -/
  noTimeout : s.rspArgs.status ≠ .timeout
  /-- A response is delivered with the return to IDLE and its status is 0 to 3 (spec/30_encoding.md R67). -/
  delivered : s.rspValid = true → s.phase = .idle ∧ s.rspStatus.toNat ≤ 3

/-- The samples a WAIT of budget `b` still takes at most from count `s.cnt`. -/
def State.samplesLeft (s : State) (b : Count) : Nat := b.toNat - s.cnt.toNat + 1

/-- The longest all the bits after the present one still take. -/
def State.laterBitTicks (s : State) : Nat := (s.params.nBits.toNat - 1 - s.biti.toNat) * s.params.bitTicks

/-- The most steps a command still takes from here to IDLE: the parts of the table of R170 added up, with the model's own steps
outside holds and samples and the command's ticks of OVH (log 6). -/
def State.stepsLeft (s : State) : Nat :=
  let p := s.params
  let rest := s.ovhLeft + 2
  match s.phase with
  | .idle => 0
  | .respond => s.ovhLeft + 1
  | .check => rest
  | .bitHigh => s.samplesLeft p.tBitHigh + s.laterBitTicks + rest
  | .bitLow => s.samplesLeft p.tBitLow + (p.tBitHigh.toNat + 1) + s.laterBitTicks + rest
  | .ackHigh => s.samplesLeft p.tAck + p.frameTicks + rest
  | .ackLow => s.samplesLeft p.tAck + (p.tAck.toNat + 1) + p.frameTicks + rest
  | .startHigh => s.holdc.toNat + 1 + p.ackTicks + p.frameTicks + rest
  | .startLow => s.holdc.toNat + (p.tStartHigh.toNat + 1) + p.ackTicks + p.frameTicks + rest
  | .settle => s.holdc.toNat + 1 + p.tStartLow.toNat + (p.tStartHigh.toNat + 1) + p.ackTicks + p.frameTicks + rest

/-- The ticks an event takes: a hold its length, a sample one, every other event none (R170, spec/20_memory.md R41). -/
def Event.ticks : Event → Nat
  | .cmd _ => 0
  | .dir _ _ => 0
  | .set _ _ => 0
  | .get _ _ => 1
  | .now _ => 0
  | .hold n => n
  | .rsp _ => 0

/-- The ticks of a trace's holds and samples. -/
def ticksOf : List Event → Nat
  | [] => 0
  | e :: es => e.ticks + ticksOf es

/-- The duration of a command whose events are `events`: its holds and samples, and its OVH, whatever that is (R170). -/
def commandTicks (ovh : Nat) (events : List Event) : Nat := ticksOf events + ovh

/-- The most ticks of holds and samples an acquisition still takes (R170). -/
def State.acquisitionTicksLeft (s : State) : Nat :=
  let p := s.params
  match s.phase with
  | .idle => 0
  | .respond => 0
  | .check => 0
  | .bitHigh => s.samplesLeft p.tBitHigh + s.laterBitTicks
  | .bitLow => s.samplesLeft p.tBitLow + (p.tBitHigh.toNat + 1) + s.laterBitTicks
  | .ackHigh => s.samplesLeft p.tAck + p.frameTicks
  | .ackLow => s.samplesLeft p.tAck + (p.tAck.toNat + 1) + p.frameTicks
  | .startHigh => (if s.holdc = p.tStartHigh then p.tStartHigh.toNat else 0) + p.ackTicks + p.frameTicks
  | .startLow =>
    (if s.holdc = p.tStartLow then p.tStartLow.toNat else 0) + p.tStartHigh.toNat + p.ackTicks + p.frameTicks
  | .settle => p.acquisitionTicks

/-- The event is an operation on the Pin Line: Dir, Set or Get (spec/20_memory.md R41). -/
def Event.touchesPin : Event → Bool
  | .cmd _ => false
  | .dir _ _ => true
  | .set _ _ => true
  | .get _ _ => true
  | .now _ => false
  | .hold _ => false
  | .rsp _ => false

/-- WAIT(e, B) as the loop of spec/40_signal_waiter.md R90 over a list of samples, from count `c` on: the result and the
samples not consumed; `none` if the samples end before the loop does. -/
def waitOn (e : Level) (b : Nat) (c : Nat) : List Level → Option (Option Nat × List Level)
  | [] => none
  | v :: rest =>
    if v ≠ e then some (some c, rest)
    else if c = b then some (none, rest)
    else waitOn e b (c + 1) rest

/-- The state after `k` ticks, if every one of them answers a next state. -/
def runFor : Nat → State → Option State
  | 0, s => some s
  | k + 1, s =>
    match step s with
    | .next s' => runFor k s'
    | .fault _ => none
    | .refused _ => none

/-- How many WAITs end in the next `k` ticks: how often a phase of WAIT is left (spec/40_signal_waiter.md R90). -/
def waitsEnded : Nat → State → Nat
  | 0, _ => 0
  | k + 1, s =>
    match step s with
    | .next s' => (if s.phase.waiting = true ∧ s'.phase ≠ s.phase then 1 else 0) + waitsEnded k s'
    | .fault _ => 0
    | .refused _ => 0

/-- The input levels of the present tick and of the given ticks to come, the first `n` of them. -/
def State.nextInputs (s : State) (n : Nat) : List Inputs := (s.inp :: s.inputs).take n

/-- The line carries exactly these levels in the coming ticks, the present one first, and no reset happens in them: a pin
stream (spec/20_memory.md R43, R56). -/
def State.offers (s : State) (levels : List Level) : Prop :=
  (s.nextInputs levels.length).map Inputs.pinIn = levels ∧ ∀ i ∈ s.nextInputs levels.length, i.rst = false

/-- Both phases of a handshake or of one bit as samples: `low` samples of 0, one sample of 1 that ends the first WAIT, `high`
further samples of 1, one sample of 0 that ends the second (spec/30_encoding.md R69). -/
def symbol (low high : Nat) : List Level :=
  List.replicate low false ++ true :: List.replicate high true ++ [false]

end Sys2Proof.Machine
end

