-- ==== Sys2Proof/Certificates/Slice0/Obligations.lean ====
section
/-!
DEFINITION. The statements for the provers, from the numbered rules of spec/. Each docstring names the rule; a clause that
rests on a choice of the model names the assumption-log entry.
-/

open Sys2Proof Sys2Proof.Machine

/-! ## Words the statements share -/

/-- `t` differs from `s` at most in what an acquisition discards (FRAME0 to FRAME4, BITI, CNT, EXP, BUD, HOLDC: spec/41 R110),
in PHASE and the response arguments, in the slots, the trace and the model's draw counter. -/
def Sys2Proof.Machine.SameOutsideFrame (s t : State) : Prop :=
  t.cmd = s.cmd ∧ t.h = s.h ∧ t.t = s.t ∧ t.pinSel = s.pinSel ∧ t.pinOe = s.pinOe ∧ t.pinOut = s.pinOut ∧
    t.rspValid = s.rspValid ∧ t.rspStatus = s.rspStatus ∧ t.rspHandle = s.rspHandle ∧ t.rspReading = s.rspReading ∧
    t.inp = s.inp ∧ t.inputs = s.inputs ∧ t.ovhLeft = s.ovhLeft ∧ t.params = s.params

/-- `t` is what a Timeout in a WAIT leaves of `s`: the ending sample consumed, FAIL on its way, the handle context file, the pin
registers and the response registers untouched (spec/41 R100, R110; spec/60 R148). -/
def Sys2Proof.Machine.FailedFrom (s t : State) : Prop :=
  t.phase = .respond ∧ t.rspArgs = ⟨.fail, none, none⟩ ∧ t.slots = s.slots ∧
    t.trace = .get s.pinSel s.inp.pinIn :: s.trace ∧ SameOutsideFrame s t

/-- What a tick adds around `exec`: the next tick's input levels. -/
def Sys2Proof.Machine.afterExec (r : Host.Outcome State Fault Refusal) : Host.Outcome State Fault Refusal :=
  match r with
  | .next t => .next t.nextTick
  | .fault f => .fault f
  | .refused f => .refused f

/-- Elapsed microseconds (T - LAST_TS) mod 2^64 (spec/42 R126). -/
def Sys2Proof.Machine.elapsedSince (t last : Time) : Nat := (t.toNat + 2 ^ 64 - last.toNat) % 2 ^ 64

/-! ## Encoding -/

/-- Decoding the encoding of a well-formed instruction gives it back, for every row and every operand (spec/30 R61, R62, R63,
R71). -/
def Obligations.DecodeOfEncodeIsInstruction : Prop :=
  ∀ i : Instr, WellFormed i = true → decode (encode i) = .ok i

/-- A word or code the decoder accepts is the encoding of the well-formed instruction it gives: no bit is dropped (spec/30
R61, R62, R63, R71). -/
def Obligations.EncodeOfDecodeIsCode : Prop :=
  ∀ (c : Code) (i : Instr), decode c = .ok i → WellFormed i = true ∧ encode i = c

/-- The opcode map of R63: a word selects a command exactly when (w AND mask) = match, and no word matches two rows. -/
def Obligations.OpcodeMapSelectsOneCommand : Prop :=
  ∀ w : Word,
    ((∃ cp var pin, decodeCommand w = .ok (.create cp var pin)) ↔ w &&& 0xCFFFFF00#32 = 0x00000000#32) ∧
    ((∃ hp dp h, decodeCommand w = .ok (.read hp dp h)) ↔ w &&& 0xCFFFFF00#32 = 0x40000000#32) ∧
    ((∃ hp h, decodeCommand w = .ok (.destroy hp h)) ↔ w &&& 0xDFFFFF00#32 = 0x80000000#32) ∧
    opcodeMap.countP (fun r => r.selects w) ≤ 1

/-- Reserved words are exactly those of R64, and an accepted one is answered with INVALID_ARG: nothing changes but CMD, PHASE,
the response arguments, the Cmd event and the model's own counters of OVH and of draws (logs 4 and 6). -/
def Obligations.ReservedWordsAreInvalidArg : Prop :=
  ∀ w : Word,
    ((∃ e, decodeCommand w = .error e) ↔
      (w.extractLsb' 30 2 = 0b11#2 ∨
        ((w.extractLsb' 30 2 = 0b00#2 ∨ w.extractLsb' 30 2 = 0b01#2) ∧ w.extractLsb' 8 20 ≠ 0#20) ∨
        (w.extractLsb' 30 2 = 0b10#2 ∧ (w.getLsbD 28 = true ∨ w.extractLsb' 8 20 ≠ 0#20)))) ∧
    ∀ (s : State) (e : DecodeError), s.inp.cmdValid = true → s.inp.cmdWord = w → decodeCommand w = .error e →
      ∃ n d, exec .phaseIdle s =
        .next { s with cmd := w, trace := .cmd w :: s.trace, ovhLeft := n, drawn := d, phase := .respond,
                       rspArgs := ⟨.invalidArg, none, none⟩ }

/-- Words written out from the formats decode to the commands they stand for (spec/30 R61, R62, R73), and PHASE codes to their
phases (R71). -/
def Obligations.WrittenWordsDecode : Prop :=
  decode (.command 0x20000004#32) = .ok (.create true .type11 4) ∧
    decode (.command 0x30000004#32) = .ok (.create true .type22 4) ∧
    decode (.command 0x00000000#32) = .ok (.create false .type11 0) ∧
    decode (.command 0x70000003#32) = .ok (.read true true 3) ∧
    decode (.command 0x50000000#32) = .ok (.read false true 0) ∧
    decode (.command 0x60000002#32) = .ok (.read true false 2) ∧
    decode (.command 0xA0000000#32) = .ok (.destroy true 0) ∧
    decode (.command 0x80000000#32) = .ok (.destroy false 0) ∧
    decode (.command 0xC0000000#32) = .error .reservedOp ∧
    decode (.command 0x90000000#32) = .error .reservedField ∧
    decode (.command 0x28000004#32) = .error .reservedField ∧
    decode (.phase 0x7#4) = .ok .phaseBitHigh ∧
    decode (.phase 0xA#4) = .error .unusedPhase

/-- The command lines (R72, R73) for every number, with the fields of a line in either order: what each line means as a word;
the three absent forms; and what stands after a `#` has no effect. That a `#` begins a comment wherever it stands, a field's
text included, is the model's choice (log 21, DESIGN CHOICE): the spec says only that "`#` starts a comment". -/
def Obligations.CommandLinesMeanWords : Prop :=
  (∀ n < 256,
    parseCommand ("CREATE pin=".toList ++ decimal n ++ " var=T11".toList) = some (.create true .type11 n) ∧
    parseCommand ("CREATE var=T11 pin=".toList ++ decimal n) = some (.create true .type11 n) ∧
    parseCommand ("CREATE pin=".toList ++ decimal n ++ " var=T22".toList) = some (.create true .type22 n) ∧
    parseCommand ("READ h=".toList ++ decimal n) = some (.read true true n) ∧
    parseCommand ("CREATE var=T22 pin=".toList ++ decimal n) = some (.create true .type22 n) ∧
    parseCommand ("READ h=".toList ++ decimal n ++ " dst=NULL".toList) = some (.read true false n) ∧
    parseCommand ("READ dst=NULL h=".toList ++ decimal n) = some (.read true false n) ∧
    parseCommand ("DESTROY h=".toList ++ decimal n) = some (.destroy true n) ∧
    encode (.create true .type11 n) = .command (0x20000000#32 + BitVec.ofNat 32 n) ∧
    encode (.create true .type22 n) = .command (0x30000000#32 + BitVec.ofNat 32 n) ∧
    encode (.read true true n) = .command (0x70000000#32 + BitVec.ofNat 32 n) ∧
    encode (.read true false n) = .command (0x60000000#32 + BitVec.ofNat 32 n) ∧
    encode (.destroy true n) = .command (0xA0000000#32 + BitVec.ofNat 32 n)) ∧
  (parseCommand "CREATE NULL".toList).map encode = some (.command 0x00000000#32) ∧
  (parseCommand "READ NULL".toList).map encode = some (.command 0x50000000#32) ∧
  (parseCommand "DESTROY NULL".toList).map encode = some (.command 0x80000000#32) ∧
  ∀ line comment : List Char, parseCommand (line ++ '#' :: comment) = parseCommand line

/-! ## The step, reset and the ports -/

/-- A tick without reset runs the instruction that PHASE decodes to, and then has the next tick's inputs (spec/10 R12).
RSP_VALID is cleared first (log 8). -/
def Obligations.StepRunsPhaseInstruction : Prop :=
  ∀ (s : State) (i : Instr), s.inp.rst = false → decode (.phase s.phase.code) = .ok i →
    step s = afterExec (exec i { s with rspValid := false })

/-- In IDLE with a command offered, the tick accepts the word (CMD and the Cmd event) and runs the command it decodes to on the
state this leaves; the step adds the change of tick (spec/42 R130, R132). Acceptance also draws the command's ticks of OVH, `n`
(log 6). -/
def Obligations.StepRunsOfferedCommand : Prop :=
  ∀ (s : State) (i : Instr), s.inp.cmdValid = true → decode (.command s.inp.cmdWord) = .ok i →
    ∃ n d, exec .phaseIdle s =
        exec i { s with cmd := s.inp.cmdWord, trace := .cmd s.inp.cmdWord :: s.trace, ovhLeft := n, drawn := d } ∧
      (s.inp.rst = false → s.phase = .idle →
        step s = afterExec
          (exec i { s with rspValid := false, cmd := s.inp.cmdWord, trace := .cmd s.inp.cmdWord :: s.trace,
                           ovhLeft := n, drawn := d }))

/-- In IDLE with no command offered a tick changes nothing (spec/60 R156: IDLE is the only resting state, a command the only
wake-up). -/
def Obligations.IdleWithoutCommandChangesNothing : Prop :=
  ∀ s : State, s.inp.cmdValid = false → exec .phaseIdle s = .next s

/-- The reset state has the values R160 gives, for every choice of parameters and every number of slots, and an empty trace (the
trace is the model's own field, log 13); `State.reset` is the one with the defaults. -/
def Obligations.ResetStateValues : Prop :=
  State.reset = State.resetWith Params.default 1 ∧
  ∀ (p : Params) (n : Nat) (s : State), s = State.resetWith p n →
    s.phase = .idle ∧ s.cmdReady = true ∧ s.pinOe = false ∧ s.pinOut = true ∧ s.rspValid = false ∧
      s.slots.length = n ∧ (∀ c ∈ s.slots, c.alloc = false) ∧ s.trace = [] ∧ s.params = p

/-- Block reset, in any state, in the middle of a command too: the command is abandoned without a response (the trace gains
nothing), every handle is lost, the pin is an input (spec/70 R160, R171). That a word offered in IDLE in a tick with `rst` = 1
is not accepted is the model's reading (log 25, DEDUCED), and the trace is the model's own field, kept by a reset (log 13). -/
def Obligations.BlockResetAbandonsCommand : Prop :=
  ∀ s : State, s.inp.rst = true →
    ∃ t, step s = .next t ∧ t.phase = .idle ∧ t.pinOe = false ∧ t.pinOut = true ∧ t.rspValid = false ∧
      t.slots.length = s.slots.length ∧ (∀ c ∈ t.slots, c.alloc = false) ∧ t.trace = s.trace

/-- `cmd_ready` is 1 exactly when PHASE = IDLE (R12). A command offered while PHASE is not IDLE leaves no trace, and a change
of the offered word has no effect: the whole step is the same (spec/42 R130, spec/20 R54). -/
def Obligations.BusyStepIgnoresCommandPort : Prop :=
  (∀ s : State, s.cmdReady = true ↔ s.phase = .idle) ∧
  ∀ (s : State) (v : Bool) (w : Word), s.phase ≠ .idle →
    step { s with inp := { s.inp with cmdValid := v, cmdWord := w } } = step s

/-- The line is looked at only inside a WAIT, and the Edge Timer only where READ reads it, at the acceptance of a READ with HP
= DP = 1 of a live slot and after a settle hold: everywhere else, a tick of reset included, the levels on `pin_in` and `now`
have no effect on a step (spec/20 R43, R56; spec/30 R64; spec/42 R120, R122, R124, R125). -/
def Obligations.StepReadsOraclesOnlyWhereRulesSay : Prop :=
  ∀ (s : State) (v : Level) (n : Time),
    (s.inp.rst = true ∨ s.phase.waiting = false → step { s with inp := { s.inp with pinIn := v } } = step s) ∧
    (s.inp.rst = true ∨
      ((s.phase = .settle → s.holdc ≠ 0#20) ∧
        (s.phase = .idle → s.inp.cmdValid = true → ∀ h, decodeCommand s.inp.cmdWord = .ok (.read true true h) →
          s.live (BitVec.ofNat 8 h) = false)) →
      step { s with inp := { s.inp with now := n } } = step s)

/-- RSP_VALID is 1 for the one tick in which a response is delivered and 0 otherwise; the three response registers are written
by the delivery only and keep their values until the next (spec/10 R22). That the field is 1 after the tick of the delivery
and 0 after every other is the model's reading of "the tick in which a response is delivered" (log 8, DEDUCED); the delivery
comes when the command's ticks of OVH are over (log 6). -/
def Obligations.ResponseRegistersChangeOnlyInRespond : Prop :=
  ∀ s t : State, s.inp.rst = false → step s = .next t →
    (s.phase = .respond → s.ovhLeft = 0 → t.rspValid = true ∧ t.rspStatus = s.rspArgs.status.code ∧
      (∀ h, s.rspArgs.handle = some h → t.rspHandle = h) ∧ (∀ r, s.rspArgs.reading = some r → t.rspReading = r)) ∧
    (s.phase ≠ .respond ∨ s.ovhLeft ≠ 0 → t.rspValid = false ∧ t.rspStatus = s.rspStatus ∧ t.rspHandle = s.rspHandle ∧
      t.rspReading = s.rspReading)

/-- RESPOND delivers its arguments and returns to IDLE (spec/42 R131): the status, the handle and the reading where they are
given, RSP_VALID, the Rsp event; nothing else but the model's draw counter changes. The numbers of the status codes are R67's.
While ticks of OVH are left (log 6) a tick only takes one off them. -/
def Obligations.RespondDeliversAndReturnsToIdle : Prop :=
  (Status.ok.code = 0#3 ∧ Status.fail.code = 1#3 ∧ Status.invalidArg.code = 2#3 ∧ Status.noMem.code = 3#3 ∧
    Status.timeout.code = 4#3) ∧
  ∀ s : State,
    (s.ovhLeft = 0 → ∃ rh rr,
      exec .phaseRespond s =
        .next { s with phase := .idle, rspValid := true, rspStatus := s.rspArgs.status.code, rspHandle := rh,
                       rspReading := rr, trace := .rsp s.rspArgs :: s.trace, drawn := s.drawn + 1 } ∧
      (∀ h, s.rspArgs.handle = some h → rh = h) ∧ (∀ r, s.rspArgs.reading = some r → rr = r)) ∧
    (s.ovhLeft ≠ 0 → exec .phaseRespond s = .next { s with ovhLeft := s.ovhLeft - 1 })

/-! ## Commands -/

/-- CREATE (R120), its outcomes in the order of its checks: the config check, then Type22 (R121, refused), then
the allocation. The slot taken is the least free one; LAST_TS and LAST_READING are not written; nothing else changes. -/
def Obligations.CreateAllocatesLowestFreeSlot : Prop :=
  ∀ (s : State) (pin : Nat),
    (∀ var, exec (.create false var pin) s =
      .next { s with phase := .respond, rspArgs := ⟨.invalidArg, none, none⟩ }) ∧
    exec (.create true .type22 pin) s = .refused .createType22 ∧
    ((∀ c ∈ s.slots, c.alloc = true) →
      exec (.create true .type11 pin) s = .next { s with phase := .respond, rspArgs := ⟨.noMem, none, none⟩ }) ∧
    ∀ (k : Nat) (c : Slot), s.slots[k]? = some c → c.alloc = false →
      (∀ j < k, ∃ d, s.slots[j]? = some d ∧ d.alloc = true) →
      exec (.create true .type11 pin) s =
        .next { s with h := BitVec.ofNat 8 k,
                       slots := s.slots.set k { c with alloc := true, cfgPin := BitVec.ofNat 8 pin, cfgVar := .type11,
                                                       tsv := false, rvalid := false },
                       phase := .respond, rspArgs := ⟨.ok, some (BitVec.ofNat 8 k), none⟩ }

/-- CREATE of Type22 with a config present is refused on every state, before any allocation is tried (spec/42 R121, spec/60
R147); with the config absent it is not (R120 corner case b). -/
def Obligations.CreateTypeTwentyTwoIsRefused : Prop :=
  ∀ (s : State) (pin : Nat), exec (.create true .type22 pin) s = .refused .createType22 ∧
    exec (.create false .type22 pin) s ≠ .refused .createType22

/-- DESTROY (R122): of a live slot, ALLOC[H] <- 0 and status OK; the slot's other registers and everything else are left as they
are, and no collaborator operation is performed; an absent handle and a slot that is not live are the undefined case (R123); and
CREATE followed by DESTROY of the handle it returned leaves every ALLOC what it was. -/
def Obligations.DestroyFreesItsSlotOnly : Prop :=
  (∀ (s : State) (h : Nat) (c : Slot), s.slots[(BitVec.ofNat 8 h).toNat]? = some c → c.alloc = true →
    exec (.destroy true h) s =
      .next { s with h := BitVec.ofNat 8 h, slots := s.slots.set (BitVec.ofNat 8 h).toNat { c with alloc := false },
                     phase := .respond, rspArgs := ⟨.ok, none, none⟩ }) ∧
  (∀ (s : State) (hp : Bool) (h : Nat), hp = false ∨ s.live (BitVec.ofNat 8 h) = false →
    ∃ f, exec (.destroy hp h) s = .fault f) ∧
  ∀ (s t : State) (pin : Nat) (h : Byte), s.slots.length ≤ 256 → exec (.create true .type11 pin) s = .next t →
    t.rspArgs = ⟨.ok, some h, none⟩ →
    ∃ u, exec (.destroy true h.toNat) t = .next u ∧ u.slots.map Slot.alloc = s.slots.map Slot.alloc

/-- The undefined uses of a handle are exactly those of R123, and each is a fault. -/
def Obligations.UndefinedHandleUsesAreExactlyTheFaults : Prop :=
  ∀ (s : State) (h : Nat),
    (∀ hp, (∃ f, exec (.destroy hp h) s = .fault f) ↔ (hp = false ∨ s.live (BitVec.ofNat 8 h) = false)) ∧
    (∀ hp dp, (∃ f, exec (.read hp dp h) s = .fault f) ↔
      (hp = true ∧ dp = true ∧ s.live (BitVec.ofNat 8 h) = false)) ∧
    (∀ cp var, ¬ ∃ f, exec (.create cp var h) s = .fault f)

/-- INVALID_ARG (R141): raised by CREATE without a config, by READ without a handle or a destination and for a reserved word,
before any collaborator operation and any state write (a reserved word has been accepted: CMD and its event, and the draw of
OVH, log 6); never by DESTROY. -/
def Obligations.InvalidArgBeforeAnyEffect : Prop :=
  ∀ (s : State),
    (∀ var pin, exec (.create false var pin) s =
      .next { s with phase := .respond, rspArgs := ⟨.invalidArg, none, none⟩ }) ∧
    (∀ hp dp h, hp = false ∨ dp = false →
      exec (.read hp dp h) s = .next { s with phase := .respond, rspArgs := ⟨.invalidArg, none, none⟩ }) ∧
    (∀ e, s.inp.cmdValid = true → decodeCommand s.inp.cmdWord = .error e →
      ∃ n d, exec .phaseIdle s = .next { s with cmd := s.inp.cmdWord, trace := .cmd s.inp.cmdWord :: s.trace,
                                                ovhLeft := n, drawn := d,
                                                phase := .respond, rspArgs := ⟨.invalidArg, none, none⟩ }) ∧
    (∀ hp h t, exec (.destroy hp h) s = .next t → t.rspArgs.status = .ok) ∧ Status.invalidArg.code = 2#3

/-- READ step a (R125): at or above T_SETTLE there is one `Now()` and no hold; below it the first `Now()` is followed by one
hold of T_SETTLE - T; each tick of it takes one off HOLDC; then the second `Now()` is read, whatever it is, and READ goes on
to steps b and c with it, which here is said by PHASE: never SETTLE again. That the Hold event is in the trace, whole, from
the tick of the first `Now()` on is the model's choice (log 26, DESIGN CHOICE), as is the tick in which the hold's countdown
begins (log 9). -/
def Obligations.ReadHoldsUntilSettled : Prop :=
  (∀ (s : State) (h : Nat), s.live (BitVec.ofNat 8 h) = true → s.params.tSettle.toNat ≤ s.inp.now.toNat →
    ∃ t, exec (.read true true h) s = .next t ∧ t.t = s.inp.now ∧ t.trace = .now s.inp.now :: s.trace ∧
      (t.phase = .respond ∨ t.phase = .startLow)) ∧
  (∀ (s : State) (h : Nat), s.live (BitVec.ofNat 8 h) = true → s.params.fits = true →
    s.inp.now.toNat < s.params.tSettle.toNat →
    exec (.read true true h) s =
      .next { s with h := BitVec.ofNat 8 h, t := s.inp.now, phase := .settle,
                     holdc := BitVec.ofNat 20 (s.params.tSettle.toNat - s.inp.now.toNat),
                     trace := .hold (s.params.tSettle.toNat - s.inp.now.toNat) :: .now s.inp.now :: s.trace }) ∧
  (∀ s : State, s.holdc ≠ 0#20 → exec .phaseSettle s = .next { s with holdc := s.holdc - 1#20 }) ∧
  (∀ s : State, s.holdc = 0#20 → s.live s.h = true →
    ∃ t, exec .phaseSettle s = .next t ∧ t.t = s.inp.now ∧ t.trace = .now s.inp.now :: s.trace ∧
      (t.phase = .respond ∨ t.phase = .startLow))

/-- READ's throttle test (R126), at a time T that needs no settle wait and at the second `Now()` after one: throttled with a
Reading, OK with LAST_READING[h]; throttled without, FAIL; else LAST_TS[h] <- T, TSV[h] <- 1 before the attempt, and
START_LOW. Elapsed time is (T - LAST_TS[h]) mod 2^64; while TSV[h] = 0 the test is false; T_THROTTLE is 2000000 by default.
The two writes are R127's; that HOLDC is loaded with T_START_LOW in the tick of the decision is the model's choice (log 9,
DESIGN CHOICE). -/
def Obligations.ReadThrottleTestDecides : Prop :=
  Params.default.tThrottle.toNat = 2000000 ∧
  (∀ (s : State) (h : Nat) (c : Slot), s.slots[(BitVec.ofNat 8 h).toNat]? = some c → c.alloc = true →
    s.params.tSettle.toNat ≤ s.inp.now.toNat →
    (c.tsv = true ∧ elapsedSince s.inp.now c.lastTs < s.params.tThrottle.toNat →
      exec (.read true true h) s =
        .next { s with h := BitVec.ofNat 8 h, t := s.inp.now, trace := .now s.inp.now :: s.trace, phase := .respond,
                       rspArgs := if c.rvalid then ⟨.ok, none, some c.lastReading⟩ else ⟨.fail, none, none⟩ }) ∧
    (c.tsv = false ∨ s.params.tThrottle.toNat ≤ elapsedSince s.inp.now c.lastTs →
      exec (.read true true h) s =
        .next { s with h := BitVec.ofNat 8 h, t := s.inp.now, trace := .now s.inp.now :: s.trace,
                       slots := s.slots.set (BitVec.ofNat 8 h).toNat { c with lastTs := s.inp.now, tsv := true },
                       phase := .startLow, holdc := s.params.tStartLow })) ∧
  ∀ (s : State) (c : Slot), s.slots[s.h.toNat]? = some c → s.holdc = 0#20 →
    (c.tsv = true ∧ elapsedSince s.inp.now c.lastTs < s.params.tThrottle.toNat →
      exec .phaseSettle s =
        .next { s with t := s.inp.now, trace := .now s.inp.now :: s.trace, phase := .respond,
                       rspArgs := if c.rvalid then ⟨.ok, none, some c.lastReading⟩ else ⟨.fail, none, none⟩ }) ∧
    (c.tsv = false ∨ s.params.tThrottle.toNat ≤ elapsedSince s.inp.now c.lastTs →
      exec .phaseSettle s =
        .next { s with t := s.inp.now, trace := .now s.inp.now :: s.trace,
                       slots := s.slots.set s.h.toNat { c with lastTs := s.inp.now, tsv := true },
                       phase := .startLow, holdc := s.params.tStartLow })

/-- The throttle law (spec/42 R129 (1), (2)) for a clock that has not gone backwards since the last attempt: a READ less than
T_THROTTLE microseconds after it, whether that attempt succeeded or failed, answers what the cache holds (or FAIL), touches no
pin and changes no slot. -/
def Obligations.ThrottledReadTouchesNoPin : Prop :=
  ∀ (s : State) (h : Nat) (c : Slot), s.slots[(BitVec.ofNat 8 h).toNat]? = some c → c.alloc = true → c.tsv = true →
    s.params.tSettle.toNat ≤ s.inp.now.toNat → c.lastTs.toNat ≤ s.inp.now.toNat →
    s.inp.now.toNat - c.lastTs.toNat < s.params.tThrottle.toNat →
    ∃ t evs, exec (.read true true h) s = .next t ∧ t.trace = evs ++ s.trace ∧ (∀ e ∈ evs, e.touchesPin = false) ∧
      t.slots = s.slots ∧ t.pinSel = s.pinSel ∧ t.pinOe = s.pinOe ∧ t.pinOut = s.pinOut ∧
      t.rspArgs = if c.rvalid then ⟨.ok, none, some c.lastReading⟩ else ⟨.fail, none, none⟩

/-! ## The acquisition, tick by tick -/

/-- START_LOW (R101): its first tick switches the slot's pin to output and low and begins the hold; the ticks between change
HOLDC only; with its last tick START_HIGH is entered. Should T_START_LOW be 0 its hold is nothing (spec/20 R45): the same tick
drives the line high, with what START_HIGH's first tick does. The Hold event enters the trace in the first tick (log 26,
DESIGN CHOICE), which HOLDC at its full count tells (log 9); a hold of length 0 leaves one too (log 26). -/
def Obligations.StartLowDrivesAndHolds : Prop :=
  ∀ (s : State) (c : Slot), s.slots[s.h.toNat]? = some c →
    (s.holdc = s.params.tStartLow → 1 < s.holdc.toNat → c.cfgVar = .type11 →
      exec .phaseStartLow s =
        .next { s with pinSel := c.cfgPin, pinOe := true, pinOut := false, holdc := s.params.tStartLow - 1#20,
                       trace := .hold s.params.tStartLow.toNat :: .set c.cfgPin false :: .dir c.cfgPin true :: s.trace }) ∧
    (s.holdc = s.params.tStartLow → s.holdc = 0#20 → c.cfgVar = .type11 → s.params.tStartHigh ≠ 0#20 →
      exec .phaseStartLow s =
        .next { s with pinSel := c.cfgPin, pinOe := true, pinOut := true, phase := .startHigh,
                       holdc := s.params.tStartHigh - 1#20,
                       trace := .hold s.params.tStartHigh.toNat :: .set c.cfgPin true :: .hold 0 :: .set c.cfgPin false ::
                         .dir c.cfgPin true :: s.trace }) ∧
    (s.holdc = s.params.tStartLow → s.holdc = 0#20 → c.cfgVar = .type11 → s.params.tStartHigh = 0#20 →
      exec .phaseStartLow s =
        .next { s with pinSel := c.cfgPin, pinOe := false, pinOut := true, phase := .ackLow, exp := false,
                       bud := s.params.tAck, cnt := 0#7,
                       trace := .dir c.cfgPin false :: .hold 0 :: .set c.cfgPin true :: .hold 0 :: .set c.cfgPin false ::
                         .dir c.cfgPin true :: s.trace }) ∧
    (s.holdc = s.params.tStartLow → s.holdc = 1#20 → c.cfgVar = .type11 →
      exec .phaseStartLow s =
        .next { s with pinSel := c.cfgPin, pinOe := true, pinOut := false, phase := .startHigh, holdc := s.params.tStartHigh,
                       trace := .hold s.params.tStartLow.toNat :: .set c.cfgPin false :: .dir c.cfgPin true :: s.trace }) ∧
    (s.holdc ≠ s.params.tStartLow → 1 < s.holdc.toNat → exec .phaseStartLow s = .next { s with holdc := s.holdc - 1#20 }) ∧
    (s.holdc ≠ s.params.tStartLow → s.holdc.toNat ≤ 1 →
      exec .phaseStartLow s = .next { s with phase := .startHigh, holdc := s.params.tStartHigh })

/-- START_HIGH (R101): its first tick drives the line high and begins the hold; the ticks between change HOLDC only; the tick
after the hold (the first tick, should T_START_HIGH be 0) switches the pin to input and enters ACK_LOW with WAIT(0, T_ACK).
The Hold event enters the trace in the first tick (log 26, DESIGN CHOICE), which HOLDC at its full count tells (log 9); a hold
of length 0 leaves one too (log 26). -/
def Obligations.StartHighDrivesAndReleases : Prop :=
  ∀ s : State,
    (s.holdc = s.params.tStartHigh → s.holdc ≠ 0#20 →
      exec .phaseStartHigh s =
        .next { s with pinOut := true, holdc := s.params.tStartHigh - 1#20,
                       trace := .hold s.params.tStartHigh.toNat :: .set s.pinSel true :: s.trace }) ∧
    (s.holdc = s.params.tStartHigh → s.holdc = 0#20 →
      exec .phaseStartHigh s =
        .next { s with pinOut := true, pinOe := false,
                       trace := .dir s.pinSel false :: .hold 0 :: .set s.pinSel true :: s.trace, phase := .ackLow,
                       exp := false, bud := s.params.tAck, cnt := 0#7 }) ∧
    (s.holdc ≠ s.params.tStartHigh → s.holdc ≠ 0#20 →
      exec .phaseStartHigh s = .next { s with holdc := s.holdc - 1#20 }) ∧
    (s.holdc ≠ s.params.tStartHigh → s.holdc = 0#20 →
      exec .phaseStartHigh s =
        .next { s with pinOe := false, trace := .dir s.pinSel false :: s.trace, phase := .ackLow, exp := false,
                       bud := s.params.tAck, cnt := 0#7 })

/-- START of a Type22 slot has no meaning and is refused (spec/41 R102, spec/93 U5). -/
def Obligations.StartTypeTwentyTwoIsRefused : Prop :=
  ∀ (s : State) (c : Slot), s.slots[s.h.toNat]? = some c → c.cfgVar = .type22 → s.holdc = s.params.tStartLow →
    exec .phaseStartLow s = .refused .startType22

/-- The start signal as a whole (R101): from the entry into START_LOW the block drives the line for exactly T_START_LOW +
T_START_HIGH ticks, first low and then high, then releases it; the events are Dir, Set, Hold, Set, Hold, Dir in this order,
and no slot changes. With the defaults of R5 that is 20040 ticks. A hold of length 0 takes no tick (spec/20 R45); that it
leaves its event is the model's choice (log 26, DESIGN CHOICE), as is the mark of the entry, HOLDC at its full count (log 9). -/
def Obligations.StartSignalTakesTwentyThousandFortyTicks : Prop :=
  Params.default.startTicks = 20040 ∧
  ∀ (s : State) (c : Slot), s.phase = .startLow → s.holdc = s.params.tStartLow →
    s.slots[s.h.toNat]? = some c → c.cfgVar = .type11 → s.params.startTicks ≤ s.inputs.length →
    (∀ i ∈ s.nextInputs (s.params.startTicks + 1), i.rst = false) →
    (∀ k, 1 ≤ k → k ≤ s.params.startTicks →
      ∃ t, runFor k s = some t ∧ t.pinSel = c.cfgPin ∧ t.pinOe = true ∧
        t.pinOut = decide (s.params.tStartLow.toNat < k)) ∧
    ∃ t, runFor (s.params.startTicks + 1) s = some t ∧ t.phase = .ackLow ∧ t.pinOe = false ∧ t.pinOut = true ∧
      t.slots = s.slots ∧
      t.trace = [.dir c.cfgPin false, .hold s.params.tStartHigh.toNat, .set c.cfgPin true,
                 .hold s.params.tStartLow.toNat, .set c.cfgPin false, .dir c.cfgPin true] ++ s.trace

/-- One tick of the response handshake (R103, R90): a sample equal to the expected level adds one to CNT, or at the budget
fails the acquisition; a sample that differs ends the phase, ACK_LOW in ACK_HIGH and ACK_HIGH in BIT_LOW with BITI = 0 (in
CHECK, should N_BITS be 0: the loop of R100 then has no turn). -/
def Obligations.HandshakeTickOutcomes : Prop :=
  ∀ s : State,
    (∀ i, i = .phaseAckLow ∨ i = .phaseAckHigh → s.inp.pinIn = s.exp → s.cnt ≠ s.bud →
      exec i s = .next { s with cnt := s.cnt + 1#7, trace := .get s.pinSel s.inp.pinIn :: s.trace }) ∧
    (∀ i, i = .phaseAckLow ∨ i = .phaseAckHigh → s.inp.pinIn = s.exp → s.cnt = s.bud →
      ∃ t, exec i s = .next t ∧ FailedFrom s t) ∧
    (s.inp.pinIn ≠ s.exp →
      exec .phaseAckLow s =
        .next { s with phase := .ackHigh, exp := true, bud := s.params.tAck, cnt := 0#7,
                       trace := .get s.pinSel s.inp.pinIn :: s.trace }) ∧
    (s.inp.pinIn ≠ s.exp → s.params.nBits ≠ 0#6 →
      exec .phaseAckHigh s =
        .next { s with phase := .bitLow, biti := 0#6, exp := false, bud := s.params.tBitLow, cnt := 0#7,
                       trace := .get s.pinSel s.inp.pinIn :: s.trace }) ∧
    (s.inp.pinIn ≠ s.exp → s.params.nBits = 0#6 →
      exec .phaseAckHigh s =
        .next { s with phase := .check, biti := 0#6, trace := .get s.pinSel s.inp.pinIn :: s.trace })

/-- One tick of a bit's two phases (R104, R90): as in the handshake; BIT_LOW ends in BIT_HIGH; BIT_HIGH stores the bit of its
count, adds one to BITI and goes on with BIT_LOW below N_BITS bits, else with CHECK (R105, R106, R111). -/
def Obligations.BitTickOutcomes : Prop :=
  ∀ s : State,
    (∀ i, i = .phaseBitLow ∨ i = .phaseBitHigh → s.inp.pinIn = s.exp → s.cnt ≠ s.bud →
      exec i s = .next { s with cnt := s.cnt + 1#7, trace := .get s.pinSel s.inp.pinIn :: s.trace }) ∧
    (∀ i, i = .phaseBitLow ∨ i = .phaseBitHigh → s.inp.pinIn = s.exp → s.cnt = s.bud →
      ∃ t, exec i s = .next t ∧ FailedFrom s t) ∧
    (s.inp.pinIn ≠ s.exp →
      exec .phaseBitLow s =
        .next { s with phase := .bitHigh, exp := true, bud := s.params.tBitHigh, cnt := 0#7,
                       trace := .get s.pinSel s.inp.pinIn :: s.trace }) ∧
    (s.inp.pinIn ≠ s.exp → s.biti.toNat + 1 < s.params.nBits.toNat →
      exec .phaseBitHigh s =
        .next { s with frame := s.frame.storeBit s.biti (decide (s.params.tOne.toNat < s.cnt.toNat)), biti := s.biti + 1#6,
                       phase := .bitLow, exp := false, bud := s.params.tBitLow, cnt := 0#7,
                       trace := .get s.pinSel s.inp.pinIn :: s.trace }) ∧
    (s.inp.pinIn ≠ s.exp → s.biti.toNat + 1 = s.params.nBits.toNat →
      exec .phaseBitHigh s =
        .next { s with frame := s.frame.storeBit s.biti (decide (s.params.tOne.toNat < s.cnt.toNat)), 
                       biti := s.params.nBits, phase := .check, trace := .get s.pinSel s.inp.pinIn :: s.trace })

/-- The bit decision (R105): b = 0 if c <= T_ONE, b = 1 if c > T_ONE, unsigned, with T_ONE = 27 by default; and there is no bit
where the low phase exceeds T_BIT_LOW (50) or the high phase T_BIT_HIGH (70): the acquisition fails. -/
def Obligations.CountAboveThresholdIsOne : Prop :=
  Params.default.tOne = 27#7 ∧ Params.default.tBitLow = 50#7 ∧ Params.default.tBitHigh = 70#7 ∧
  (∀ (p : Params) (c : Count),
    (bitOfCount p c = false ↔ c.toNat ≤ p.tOne.toNat) ∧ (bitOfCount p c = true ↔ p.tOne.toNat < c.toNat)) ∧
  (∀ s : State, s.inp.pinIn ≠ s.exp →
    ∃ t, exec .phaseBitHigh s = .next t ∧ t.frame = s.frame.storeBit s.biti (bitOfCount s.params s.cnt)) ∧
  ∀ (s : State) (i : Instr),
    (i = .phaseBitLow ∧ s.bud = s.params.tBitLow) ∨ (i = .phaseBitHigh ∧ s.bud = s.params.tBitHigh) →
    s.inp.pinIn = s.exp → s.cnt = s.bud → ∃ t, exec i s = .next t ∧ FailedFrom s t

/-- Bit packing (R106): storing the bit of position i writes bit 7 - (i mod 8) of FRAME(i div 8) and no other bit of any frame
register; after the stores of positions 0 to 39 the frame holds exactly those bits, whatever the registers held before, and each
byte is its eight bits shifted in from the right. -/
def Obligations.StoreBitWritesOneFrameBit : Prop :=
  (∀ (f : RawFrame) (i : BitIndex) (b : Bool), i.toNat < 40 →
    (∃ v, f.byte? (i.toNat / 8) = some v ∧
      ∃ w, (f.storeBit i b).byte? (i.toNat / 8) = some w ∧
        ∀ k < 8, w.getLsbD k = if k = 7 - i.toNat % 8 then b else v.getLsbD k) ∧
    ∀ n < 5, n ≠ i.toNat / 8 → (f.storeBit i b).byte? n = f.byte? n) ∧
  ∀ (f : RawFrame) (bits : Nat → Bool),
    let g := (List.range 40).foldl (fun g i => g.storeBit (BitVec.ofNat 6 i) (bits i)) f
    (∀ j < 40, g.bitAt j = some (bits j)) ∧
    ∀ n < 5, g.byte? n =
      some ((List.range 8).foldl (fun (v : Byte) k => (v <<< 1) ||| (BitVec.ofBool (bits (8 * n + k))).setWidth 8) 0#8)

/-- CHECK and BUILD (R107, R108): the acquisition succeeds exactly when byte 4 equals the sum of bytes 0 to 3 mod 256; then the
Reading is stored in the slot and returned, byte 0 in [31:24]; else FAIL and no slot changes. -/
def Obligations.ChecksumDecidesAcquisition : Prop :=
  ∀ (s : State) (c : Slot), s.slots[s.h.toNat]? = some c →
    ∃ t rd, exec .phaseCheck s = .next t ∧ t.phase = .respond ∧ t.trace = s.trace ∧ SameOutsideFrame s t ∧
      rd.extractLsb' 24 8 = s.frame.frame0 ∧ rd.extractLsb' 16 8 = s.frame.frame1 ∧
      rd.extractLsb' 8 8 = s.frame.frame2 ∧ rd.extractLsb' 0 8 = s.frame.frame3 ∧
      (s.frame.frame4.toNat =
          (s.frame.frame0.toNat + s.frame.frame1.toNat + s.frame.frame2.toNat + s.frame.frame3.toNat) % 256 →
        t.rspArgs = ⟨.ok, none, some rd⟩ ∧
          t.slots = s.slots.set s.h.toNat { c with lastReading := rd, rvalid := true }) ∧
      (s.frame.frame4.toNat ≠
          (s.frame.frame0.toNat + s.frame.frame1.toNat + s.frame.frame2.toNat + s.frame.frame3.toNat) % 256 →
        t.rspArgs = ⟨.fail, none, none⟩ ∧ t.slots = s.slots)

/-- The typing of a Reading (spec/10 R19, spec/30 R70): the integral parts are bytes 0 and 2 as two's complement numbers, the
fractional parts bytes 1 and 3 as unsigned ones. That "signed" means two's complement is the spec's own reading (D14, log 17). -/
def Obligations.ReadingBytesAreTyped : Prop :=
  ∀ f : RawFrame,
    readingOf f.build = ⟨⟨f.frame2.toInt, f.frame3.toNat⟩, ⟨f.frame0.toInt, f.frame1.toNat⟩⟩

/-! ## The acquisition, over a pin stream -/

/-- WAIT over the line (R90, R93), for the four phases that are WAITs: if the line is at the expected level for exactly n
ticks and then at the other, the phase is left with count n when n is at most the budget; if it stays at the expected level
for budget + 1 ticks the acquisition fails, and no slot changes. -/
def Obligations.WaitMeasuresTheLevel : Prop :=
  ∀ (s : State) (e : Level) (b : Count), s.phase.waiting = true → e = s.phase.expected →
    b = s.phase.budget s.params →
    s.exp = e → s.bud = b → s.cnt = 0#7 →
    (∀ n, n ≤ b.toNat → s.offers (List.replicate n e ++ [!e]) →
      ∃ t u, runFor n s = some t ∧ t.phase = s.phase ∧ t.cnt.toNat = n ∧ t.frame = s.frame ∧ t.biti = s.biti ∧
        t.trace = List.replicate n (.get s.pinSel e) ++ s.trace ∧ step t = .next u ∧
        u.trace = .get s.pinSel (!e) :: t.trace ∧ u.slots = s.slots ∧ u.phase ≠ s.phase ∧ u.phase ≠ .respond) ∧
    (s.offers (List.replicate (b.toNat + 1) e) →
      ∃ t, runFor (b.toNat + 1) s = some t ∧ t.phase = .respond ∧ t.rspArgs = ⟨.fail, none, none⟩ ∧
        t.slots = s.slots ∧ t.trace = List.replicate (b.toNat + 1) (.get s.pinSel e) ++ s.trace)

/-- WAIT is the loop of R90: on any pin stream on which the loop ends, the phase takes exactly the loop's samples, in order,
and ends as the loop does: left for the next phase with the loop's count (which in BIT_HIGH decides the stored bit), or a
Timeout and FAIL. -/
def Obligations.WaitFollowsItsLoop : Prop :=
  ∀ (s : State) (levels rest : List Level) (r : Option Nat), s.phase.waiting = true → s.exp = s.phase.expected →
    s.bud = s.phase.budget s.params → s.cnt = 0#7 → s.offers levels → waitOn s.exp s.bud.toNat 0 levels = some (r, rest) →
    ∃ t, runFor (levels.length - rest.length) s = some t ∧ t.slots = s.slots ∧
      t.trace = ((levels.take (levels.length - rest.length)).reverse.map (.get s.pinSel)) ++ s.trace ∧
      (∀ c, r = some c → c ≤ s.bud.toNat ∧ t.phase ≠ s.phase ∧ t.phase ≠ .respond ∧
        t.frame = if s.phase = .bitHigh then s.frame.storeBit s.biti (decide (s.params.tOne.toNat < c)) else s.frame) ∧
      (r = none → t.phase = .respond ∧ t.rspArgs = ⟨.fail, none, none⟩)

/-- One bit (R104, R105, R106, R69): a low phase measured `low` <= T_BIT_LOW and a high phase measured `high` <= T_BIT_HIGH
store the bit high > T_ONE at frame position BITI, leave every other position, and go on with the next bit or with CHECK. -/
def Obligations.SymbolStoresItsBit : Prop :=
  ∀ (s : State) (low high : Nat), s.params.fits = true → s.phase = .bitLow → s.exp = false → s.bud = s.params.tBitLow →
    s.cnt = 0#7 → s.biti.toNat < s.params.nBits.toNat → low ≤ s.params.tBitLow.toNat → high ≤ s.params.tBitHigh.toNat →
    s.offers (symbol low high) →
    ∃ t, runFor (low + high + 2) s = some t ∧ t.biti = s.biti + 1#6 ∧ t.slots = s.slots ∧
      (∀ j < 40, t.frame.bitAt j =
        if j = s.biti.toNat then some (decide (s.params.tOne.toNat < high)) else s.frame.bitAt j) ∧
      (t.phase = if s.biti.toNat + 1 < s.params.nBits.toNat then .bitLow else .check)

/-- A whole frame: from ACK_LOW, a handshake and N_BITS symbols within their budgets reach CHECK in as many ticks as there are
samples, with every frame position below N_BITS holding the decision of its high phase, whatever the frame registers held
before, and the positions from N_BITS on (none with the default 40) as they were (R103 to R106, R112; that those keep the
registers' old bits is the model's choice, log 27). -/
def Obligations.FrameIsAssembledFromSymbols : Prop :=
  ∀ (s : State) (ackLow ackHigh : Nat) (syms : List (Nat × Nat)),
    s.params.fits = true → s.phase = .ackLow → s.exp = false → s.bud = s.params.tAck → s.cnt = 0#7 →
    ackLow ≤ s.params.tAck.toNat → ackHigh ≤ s.params.tAck.toNat → syms.length = s.params.nBits.toNat →
    (∀ p ∈ syms, p.1 ≤ s.params.tBitLow.toNat ∧ p.2 ≤ s.params.tBitHigh.toNat) →
    s.offers (symbol ackLow ackHigh ++ syms.flatMap fun p => symbol p.1 p.2) →
    ∃ t, runFor (symbol ackLow ackHigh ++ syms.flatMap fun p => symbol p.1 p.2).length s = some t ∧ t.phase = .check ∧
      t.slots = s.slots ∧ t.h = s.h ∧
      ∀ j < 40, t.frame.bitAt j =
        match syms[j]? with
        | some p => some (decide (s.params.tOne.toNat < p.2))
        | none => s.frame.bitAt j

/-! ## Whole-machine rules -/

/-- The invariant of a run holds at reset, for the default parameters and for every parameters that fit and every number of
slots R6 allows. -/
def Obligations.ResetSatisfiesInvariant : Prop :=
  State.reset.Inv ∧
  ∀ (p : Params) (n : Nat), p.fits = true → 1 ≤ n → n ≤ 256 → (State.resetWith p n).Inv

/-- Every step keeps the invariant: a live slot is Type11 (R121), RVALID implies TSV (R18), the line is driven only in the start
signal (R169), WAIT's registers are those of its phase (R90), BITI is in range (R13), a delivered status is 0 to 3 (R67). -/
def Obligations.StepKeepsInvariant : Prop :=
  ∀ s t : State, s.Inv → step s = .next t → t.Inv

/-- No step from a state of the invariant stops, but for what a command word asks: CREATE of Type22, and a handle that is not
live (spec/42 R131: "all are values returned to the caller except the explicitly documented undefined-behavior cases"). -/
def Obligations.OnlyCommandsCanStop : Prop :=
  ∀ s : State, s.Inv → (∀ t, step s ≠ .next t) →
    s.phase = .idle ∧ s.inp.cmdValid = true ∧
      ((∃ pin, decodeCommand s.inp.cmdWord = .ok (.create true .type22 pin)) ∨
        (∃ h, decodeCommand s.inp.cmdWord = .ok (.read true true h) ∧ s.live (BitVec.ofNat 8 h) = false) ∨
        (∃ hp h, decodeCommand s.inp.cmdWord = .ok (.destroy hp h) ∧
          (hp = false ∨ s.live (BitVec.ofNat 8 h) = false)))

/-- Every accepted command ends within a bounded number of ticks (R130, R170): from a state of the invariant inside a command,
without a reset, IDLE is reached within the steps the table of R170 adds up to, at most T_SETTLE, the longest acquisition, the
command's ticks of OVH that are left and the model's five steps outside holds and samples (log 6); T_SETTLE and the longest
acquisition are 1000000 + 25082 with the defaults. -/
def Obligations.EveryCommandEnds : Prop :=
  Params.default.tSettle.toNat + Params.default.acquisitionTicks = 1000000 + 25082 ∧
  (∀ s : State, s.Inv →
    s.stepsLeft ≤ s.params.tSettle.toNat + s.params.acquisitionTicks + 5 + s.ovhLeft) ∧
  ∀ s : State, s.Inv → s.stepsLeft ≤ s.inputs.length + 1 → (∀ i ∈ s.nextInputs s.stepsLeft, i.rst = false) →
    ∃ k t, k ≤ s.stepsLeft ∧ runFor k s = some t ∧ t.phase = .idle

/-- The duration of an acquisition (R170): no step makes the ticks of holds and samples so far plus the most that can still come
grow; from its start an acquisition so takes at most the ticks the table of R170 adds up to, 25082 with the defaults, and OVH,
whatever OVH is. A hold's ticks count from the tick in which its event enters the trace (log 26). -/
def Obligations.AcquisitionTicksAreBounded : Prop :=
  Params.default.acquisitionTicks = 25082 ∧
  (∀ s : State, s.phase = .startLow → s.holdc = s.params.tStartLow →
    s.acquisitionTicksLeft = s.params.acquisitionTicks) ∧
  ∀ (s t : State) (ovh : Nat), s.Inv → s.inp.rst = false → s.phase ≠ .idle → step s = .next t →
    commandTicks ovh t.trace + t.acquisitionTicksLeft ≤ commandTicks ovh s.trace + s.acquisitionTicksLeft

/-- The pin output registers are written by the start signal only, and the block drives the line at no other time (R21, R169):
after every acquisition, whatever its outcome, PIN_OE = 0 and PIN_OUT = 1 (R110). -/
def Obligations.PinRegistersWrittenByStartOnly : Prop :=
  (∀ (i : Instr) (s t : State), exec i s = .next t → i ≠ .phaseStartLow → i ≠ .phaseStartHigh →
    t.pinSel = s.pinSel ∧ t.pinOe = s.pinOe ∧ t.pinOut = s.pinOut) ∧
  ∀ s t : State, s.Inv → s.phase.working = true → step s = .next t → t.phase = .respond →
    t.pinOe = false ∧ t.pinOut = true

/-- The line is never sampled while the block drives it, and only the selected pin is sampled, once a tick (R41, R56, R92). -/
def Obligations.NoSampleWhileDriving : Prop :=
  ∀ s t : State, s.Inv → step s = .next t → ∀ p v, .get p v ∈ t.trace.take (t.trace.length - s.trace.length) →
    s.pinOe = false ∧ t.pinOe = false ∧ p = s.pinSel ∧ v = s.inp.pinIn ∧ t.trace = .get p v :: s.trace

/-- Slots share nothing (R15): an instruction leaves every slot alone but the one H names after it. -/
def Obligations.InstructionTouchesOnlySlotH : Prop :=
  ∀ (i : Instr) (s t : State), s.slots.length ≤ 256 → exec i s = .next t →
    t.slots.length = s.slots.length ∧ ∀ j, j ≠ t.h.toNat → t.slots[j]? = s.slots[j]?

/-- The configuration of a live slot never changes (R16). -/
def Obligations.LiveConfigurationIsImmutable : Prop :=
  ∀ (i : Instr) (s t : State) (j : Nat) (c : Slot), exec i s = .next t → s.slots[j]? = some c → c.alloc = true →
    ∃ d, t.slots[j]? = some d ∧ d.cfgPin = c.cfgPin ∧ d.cfgVar = c.cfgVar

/-- LAST_READING changes, and RVALID becomes 1, only where CHECK passes, for the slot of the acquisition and to the first four
bytes of the frame that passed (R18, R55, R129 (5)). -/
def Obligations.CacheChangesOnlyByPassingFrame : Prop :=
  ∀ (i : Instr) (s t : State) (j : Nat) (c d : Slot), exec i s = .next t → s.slots[j]? = some c → t.slots[j]? = some d →
    (d.lastReading ≠ c.lastReading ∨ (c.rvalid = false ∧ d.rvalid = true)) →
    i = .phaseCheck ∧ j = s.h.toNat ∧ s.frame.frame4 = s.frame.frame0 + s.frame.frame1 + s.frame.frame2 + s.frame.frame3 ∧
      d.rvalid = true ∧ d.lastReading = s.frame.frame0 ++ s.frame.frame1 ++ s.frame.frame2 ++ s.frame.frame3

/-- An acquisition starts only outside the slot's window, and opens a new one (R129 (3), R127); when it starts without a settle
wait the time is at least T_SETTLE (R129 (4)). -/
def Obligations.AcquisitionStartsOnlyOutsideWindow : Prop :=
  ∀ s t : State, s.inp.rst = false → s.phase ≠ .startLow → step s = .next t → t.phase = .startLow →
    t.t = s.inp.now ∧ (s.phase = .idle → s.params.tSettle.toNat ≤ s.inp.now.toNat) ∧
    ∃ c d, s.slots[t.h.toNat]? = some c ∧ t.slots[t.h.toNat]? = some d ∧ d = { c with lastTs := s.inp.now, tsv := true } ∧
      (c.tsv = true → s.params.tThrottle.toNat ≤ elapsedSince s.inp.now c.lastTs)

/-- A FAIL, from an acquisition or from a throttled READ, changes no slot: the cache, its validity and the window the attempt
opened stay, and nothing but the status is returned (R127, R148). -/
def Obligations.FailureLeavesCache : Prop :=
  ∀ s t : State, s.inp.rst = false → s.phase ≠ .respond → step s = .next t → t.phase = .respond →
    t.rspArgs.status = .fail → t.slots = s.slots ∧ t.rspArgs = ⟨.fail, none, none⟩

/-- A complete acquisition makes exactly N_WAITS WAITs, 82 with the default N_BITS (R112): in any run that starts in ACK_LOW,
stays in phases of WAIT and then reaches CHECK, N_WAITS of them have ended; in one that is aborted (RESPOND) 1 to N_WAITS
have, the last by its Timeout. -/
def Obligations.CompleteAcquisitionMakesEightyTwoWaits : Prop :=
  Params.default.nWaits = 82 ∧
  ∀ (s t : State) (k : Nat), s.params.fits = true → s.phase = .ackLow → runFor k s = some t →
    (∀ j < k, ∃ u, runFor j s = some u ∧ u.phase.waiting = true) →
    (t.phase = .check → waitsEnded k s = s.params.nWaits) ∧
    (t.phase = .respond → 1 ≤ waitsEnded k s ∧ waitsEnded k s ≤ s.params.nWaits ∧ t.rspArgs.status = .fail)

/-- The phase graph (spec/41 R111, spec/42 R132): without a reset PHASE moves along its edges only. Should both holds of the
start signal be 0 (nothing, spec/20 R45), one tick goes from START_LOW through START_HIGH to ACK_LOW; should N_BITS be 0, the
loop of R100 has no turn and ACK_HIGH goes to CHECK. -/
def Obligations.PhaseMovesAlongGraph : Prop :=
  ∀ s t : State, s.inp.rst = false → step s = .next t → t.phase = s.phase ∨
    (s.phase = .idle ∧ (t.phase = .respond ∨ t.phase = .settle ∨ t.phase = .startLow)) ∨
    (s.phase = .settle ∧ (t.phase = .respond ∨ t.phase = .startLow)) ∨
    (s.phase = .startLow ∧ (t.phase = .startHigh ∨
      (t.phase = .ackLow ∧ s.params.tStartLow = 0#20 ∧ s.params.tStartHigh = 0#20))) ∨
    (s.phase = .startHigh ∧ t.phase = .ackLow) ∨
    (s.phase = .ackLow ∧ (t.phase = .ackHigh ∨ t.phase = .respond)) ∨
    (s.phase = .ackHigh ∧ (t.phase = .bitLow ∨ t.phase = .respond ∨ (t.phase = .check ∧ s.params.nBits = 0#6))) ∨
    (s.phase = .bitLow ∧ (t.phase = .bitHigh ∨ t.phase = .respond)) ∨
    (s.phase = .bitHigh ∧ (t.phase = .bitLow ∨ t.phase = .check ∨ t.phase = .respond)) ∨
    (s.phase = .check ∧ t.phase = .respond) ∨ (s.phase = .respond ∧ t.phase = .idle)

/-! ## Parameters -/

/-- The defaults of the parameters (spec/00 R5): T_START_LOW to T_THROTTLE as the table gives them, N_BYTES and N_WAITS as they
follow from N_BITS. -/
def Obligations.ParameterDefaults : Prop :=
  State.reset.params = Params.default ∧ Params.default.tStartLow.toNat = 20000 ∧ Params.default.tStartHigh.toNat = 40 ∧
    Params.default.tAck.toNat = 80 ∧ Params.default.tBitLow.toNat = 50 ∧ Params.default.tBitHigh.toNat = 70 ∧
    Params.default.tOne.toNat = 27 ∧ Params.default.nBits.toNat = 40 ∧ Params.default.nBytes = 5 ∧
    Params.default.nWaits = 82 ∧ Params.default.tSettle.toNat = 1000000 ∧ Params.default.tThrottle.toNat = 2000000

/-- The parameters and the number of slots are fixed for the machine (spec/00 R5, R6): no step changes them, a block reset
included. -/
def Obligations.ParametersAndSlotCountNeverChange : Prop :=
  ∀ s t : State, step s = .next t → t.params = s.params ∧ t.slots.length = s.slots.length

/-- OVH (spec/00 R6, spec/70 R170): in RESPOND, without a reset, the ticks of OVH the command drew are spent first, with
nothing on the response port and nothing in the trace; the tick after them delivers the response and returns to IDLE. That OVH
is spent in RESPOND, before the delivery, is the model's choice (log 6, DESIGN CHOICE). -/
def Obligations.RespondSpendsOvhFirst : Prop :=
  ∀ s : State, s.phase = .respond → s.ovhLeft ≤ s.inputs.length → (∀ i ∈ s.nextInputs (s.ovhLeft + 1), i.rst = false) →
    (∀ k, 1 ≤ k → k ≤ s.ovhLeft →
      ∃ t, runFor k s = some t ∧ t.phase = .respond ∧ t.rspValid = false ∧ t.trace = s.trace ∧ t.ovhLeft = s.ovhLeft - k) ∧
    ∃ t, runFor (s.ovhLeft + 1) s = some t ∧ t.phase = .idle ∧ t.rspValid = true ∧
      t.rspStatus = s.rspArgs.status.code ∧ t.trace = .rsp s.rspArgs :: s.trace ∧ t.slots = s.slots

/-! ## The output ports -/

/-- The output ports in a tick that finds `s` and leaves `t` (spec/20 R40, R41): `cmd_ready` is 1 in IDLE and under reset
(R12, R130, R160); reset makes the pin an input (R171); `rsp_valid` is 1 in the tick that delivers, with R67's number of the
status; and in every state of the invariant the line is driven low in START_LOW, high in START_HIGH's hold and not at all
elsewhere, from the start signal's first tick on with the slot's pin (R21, R101, R169). That a port shows the register as its
tick leaves it, and `cmd_ready` the phase it finds, is the model's choice (log 6, DESIGN CHOICE; log 8, DEDUCED; log 9). -/
def Obligations.OutputPortsFollowThePhase : Prop :=
  ∀ s t : State, step s = .next t →
    ((outputsOf s t).cmdReady = true ↔ s.inp.rst = true ∨ s.phase = .idle) ∧
    (s.inp.rst = true →
      (outputsOf s t).rspValid = false ∧ (outputsOf s t).pinOe = false ∧ (outputsOf s t).pinOut = true) ∧
    (s.inp.rst = false →
      ((outputsOf s t).rspValid = true ↔ s.phase = .respond ∧ s.ovhLeft = 0) ∧
      (s.phase = .respond → s.ovhLeft = 0 →
        (outputsOf s t).rspStatus = s.rspArgs.status.code ∧
        (∀ h, s.rspArgs.handle = some h → (outputsOf s t).rspHandle = h) ∧
        (∀ r, s.rspArgs.reading = some r → (outputsOf s t).rspReading = r))) ∧
    (s.Inv → s.inp.rst = false →
      (s.phase.starting = false → (outputsOf s t).pinOe = false ∧ (outputsOf s t).pinOut = true) ∧
      (s.phase = .startLow → s.holdc = s.params.tStartLow →
        ∀ c, s.slots[s.h.toNat]? = some c → (outputsOf s t).pinSel = c.cfgPin) ∧
      (s.phase = .startLow → s.params.tStartLow ≠ 0#20 →
        (outputsOf s t).pinOe = true ∧ (outputsOf s t).pinOut = false) ∧
      (s.phase = .startLow → s.params.tStartLow = 0#20 →
        (outputsOf s t).pinOe = decide (s.params.tStartHigh ≠ 0#20) ∧ (outputsOf s t).pinOut = true) ∧
      (s.phase = .startHigh → (outputsOf s t).pinOe = decide (s.holdc ≠ 0#20) ∧ (outputsOf s t).pinOut = true))
end

