-- ==== Sys2Proof/Laws/Codec.lean ====
section
/-!
SUPPORT. Small facts of the encoding tables (spec/30_encoding.md R61 to R65, R71).
-/

namespace Sys2Proof

@[simp] theorem Variant.ofBit_bit (v : Variant) : Variant.ofBit v.bit = v := by cases v <;> rfl

@[simp] theorem Variant.bit_ofBit (b : Bool) : (Variant.ofBit b).bit = b := by cases b <;> rfl

@[simp] theorem Phase.ofCode_code (p : Phase) : Phase.ofCode p.code = some p := by cases p <;> rfl

@[simp] theorem decodePhase_code (p : Phase) : decodePhase p.code = .ok p.instr := by
  simp [decodePhase]

/-- The fields of a command word are the ones it was built from (R61, R62). -/
theorem opField_commandWord (op : BitVec 2) (p b : Bool) (low : Byte) :
    opField (commandWord op p b low) = op := by
  apply BitVec.eq_of_getLsbD_eq
  intro i hi
  simp only [opField, commandWord, BitVec.getLsbD_extractLsb', BitVec.getLsbD_append]
  have : i = 0 ∨ i = 1 := by omega
  rcases this with rfl | rfl <;> simp

theorem presentField_commandWord (op : BitVec 2) (p b : Bool) (low : Byte) :
    presentField (commandWord op p b low) = p := by
  simp only [presentField, commandWord, BitVec.getLsbD_append]
  simp

theorem bit28Field_commandWord (op : BitVec 2) (p b : Bool) (low : Byte) :
    bit28Field (commandWord op p b low) = b := by
  simp only [bit28Field, commandWord, BitVec.getLsbD_append]
  simp

theorem lowField_commandWord (op : BitVec 2) (p b : Bool) (low : Byte) :
    lowField (commandWord op p b low) = low := by
  apply BitVec.eq_of_getLsbD_eq
  intro i hi
  simp only [lowField, commandWord, BitVec.getLsbD_extractLsb', BitVec.getLsbD_append]
  simp [hi]

end Sys2Proof
end

