-- ==== Sys2Proof/Laws/State.lean ====
section
/-!
SUPPORT. What every shared update of the state does to every field: one lemma per field per update, each true by unfolding,
so that no later proof unfolds an update.
-/

namespace Sys2Proof.Machine

/-! ## The default parameters as numbers (spec/00_scope.md R5) -/

theorem default_tStartLow_toNat : Params.default.tStartLow.toNat = 20000 := rfl
theorem default_tStartHigh_toNat : Params.default.tStartHigh.toNat = 40 := rfl
theorem default_tAck_toNat : Params.default.tAck.toNat = 80 := rfl
theorem default_tBitLow_toNat : Params.default.tBitLow.toNat = 50 := rfl
theorem default_tBitHigh_toNat : Params.default.tBitHigh.toNat = 70 := rfl
theorem default_tOne_toNat : Params.default.tOne.toNat = 27 := rfl
theorem default_nBits_toNat : Params.default.nBits.toNat = 40 := rfl
theorem default_tSettle_toNat : Params.default.tSettle.toNat = 1000000 := rfl
theorem default_tThrottle_toNat : Params.default.tThrottle.toNat = 2000000 := rfl

/-- What `Params.fits` says, as numbers. -/
theorem fits_iff {p : Params} :
    p.fits = true ↔ p.nBits.toNat ≤ 40 ∧ p.tSettle.toNat < 1048576 := by
  simp [Params.fits]

/-! ## The reset state -/

@[simp] theorem State.resetWith_params (p : Params) (n : Nat) : (State.resetWith p n).params = p := rfl
@[simp] theorem State.resetWith_phase (p : Params) (n : Nat) : (State.resetWith p n).phase = .idle := rfl
@[simp] theorem State.resetWith_slots (p : Params) (n : Nat) : (State.resetWith p n).slots = List.replicate n Slot.reset := rfl
@[simp] theorem State.resetWith_ovhLeft (p : Params) (n : Nat) : (State.resetWith p n).ovhLeft = 0 := rfl

/-! ## The updates -/

variable (s : State)

@[simp] theorem State.emit_phase (e : Event) : (s.emit e).phase = s.phase := rfl
@[simp] theorem State.emit_biti (e : Event) : (s.emit e).biti = s.biti := rfl
@[simp] theorem State.emit_cmd (e : Event) : (s.emit e).cmd = s.cmd := rfl
@[simp] theorem State.emit_h (e : Event) : (s.emit e).h = s.h := rfl
@[simp] theorem State.emit_t (e : Event) : (s.emit e).t = s.t := rfl
@[simp] theorem State.emit_holdc (e : Event) : (s.emit e).holdc = s.holdc := rfl
@[simp] theorem State.emit_cnt (e : Event) : (s.emit e).cnt = s.cnt := rfl
@[simp] theorem State.emit_exp (e : Event) : (s.emit e).exp = s.exp := rfl
@[simp] theorem State.emit_bud (e : Event) : (s.emit e).bud = s.bud := rfl
@[simp] theorem State.emit_frame (e : Event) : (s.emit e).frame = s.frame := rfl
@[simp] theorem State.emit_pinSel (e : Event) : (s.emit e).pinSel = s.pinSel := rfl
@[simp] theorem State.emit_pinOe (e : Event) : (s.emit e).pinOe = s.pinOe := rfl
@[simp] theorem State.emit_pinOut (e : Event) : (s.emit e).pinOut = s.pinOut := rfl
@[simp] theorem State.emit_rspValid (e : Event) : (s.emit e).rspValid = s.rspValid := rfl
@[simp] theorem State.emit_rspStatus (e : Event) : (s.emit e).rspStatus = s.rspStatus := rfl
@[simp] theorem State.emit_rspHandle (e : Event) : (s.emit e).rspHandle = s.rspHandle := rfl
@[simp] theorem State.emit_rspReading (e : Event) : (s.emit e).rspReading = s.rspReading := rfl
@[simp] theorem State.emit_slots (e : Event) : (s.emit e).slots = s.slots := rfl
@[simp] theorem State.emit_rspArgs (e : Event) : (s.emit e).rspArgs = s.rspArgs := rfl
@[simp] theorem State.emit_ovhLeft (e : Event) : (s.emit e).ovhLeft = s.ovhLeft := rfl
@[simp] theorem State.emit_params (e : Event) : (s.emit e).params = s.params := rfl
@[simp] theorem State.emit_inp (e : Event) : (s.emit e).inp = s.inp := rfl
@[simp] theorem State.emit_inputs (e : Event) : (s.emit e).inputs = s.inputs := rfl
@[simp] theorem State.emit_drawn (e : Event) : (s.emit e).drawn = s.drawn := rfl
@[simp] theorem State.emit_trace (e : Event) : (s.emit e).trace = e :: s.trace := rfl

@[simp] theorem State.pinDir_phase (d : Bool) : (s.pinDir d).phase = s.phase := rfl
@[simp] theorem State.pinDir_biti (d : Bool) : (s.pinDir d).biti = s.biti := rfl
@[simp] theorem State.pinDir_cmd (d : Bool) : (s.pinDir d).cmd = s.cmd := rfl
@[simp] theorem State.pinDir_h (d : Bool) : (s.pinDir d).h = s.h := rfl
@[simp] theorem State.pinDir_t (d : Bool) : (s.pinDir d).t = s.t := rfl
@[simp] theorem State.pinDir_holdc (d : Bool) : (s.pinDir d).holdc = s.holdc := rfl
@[simp] theorem State.pinDir_cnt (d : Bool) : (s.pinDir d).cnt = s.cnt := rfl
@[simp] theorem State.pinDir_exp (d : Bool) : (s.pinDir d).exp = s.exp := rfl
@[simp] theorem State.pinDir_bud (d : Bool) : (s.pinDir d).bud = s.bud := rfl
@[simp] theorem State.pinDir_frame (d : Bool) : (s.pinDir d).frame = s.frame := rfl
@[simp] theorem State.pinDir_pinSel (d : Bool) : (s.pinDir d).pinSel = s.pinSel := rfl
@[simp] theorem State.pinDir_pinOe (d : Bool) : (s.pinDir d).pinOe = d := rfl
@[simp] theorem State.pinDir_pinOut (d : Bool) : (s.pinDir d).pinOut = s.pinOut := rfl
@[simp] theorem State.pinDir_rspValid (d : Bool) : (s.pinDir d).rspValid = s.rspValid := rfl
@[simp] theorem State.pinDir_rspStatus (d : Bool) : (s.pinDir d).rspStatus = s.rspStatus := rfl
@[simp] theorem State.pinDir_rspHandle (d : Bool) : (s.pinDir d).rspHandle = s.rspHandle := rfl
@[simp] theorem State.pinDir_rspReading (d : Bool) : (s.pinDir d).rspReading = s.rspReading := rfl
@[simp] theorem State.pinDir_slots (d : Bool) : (s.pinDir d).slots = s.slots := rfl
@[simp] theorem State.pinDir_rspArgs (d : Bool) : (s.pinDir d).rspArgs = s.rspArgs := rfl
@[simp] theorem State.pinDir_ovhLeft (d : Bool) : (s.pinDir d).ovhLeft = s.ovhLeft := rfl
@[simp] theorem State.pinDir_params (d : Bool) : (s.pinDir d).params = s.params := rfl
@[simp] theorem State.pinDir_inp (d : Bool) : (s.pinDir d).inp = s.inp := rfl
@[simp] theorem State.pinDir_inputs (d : Bool) : (s.pinDir d).inputs = s.inputs := rfl
@[simp] theorem State.pinDir_drawn (d : Bool) : (s.pinDir d).drawn = s.drawn := rfl
@[simp] theorem State.pinDir_trace (d : Bool) : (s.pinDir d).trace = .dir s.pinSel d :: s.trace := rfl

@[simp] theorem State.pinSet_phase (v : Level) : (s.pinSet v).phase = s.phase := rfl
@[simp] theorem State.pinSet_biti (v : Level) : (s.pinSet v).biti = s.biti := rfl
@[simp] theorem State.pinSet_cmd (v : Level) : (s.pinSet v).cmd = s.cmd := rfl
@[simp] theorem State.pinSet_h (v : Level) : (s.pinSet v).h = s.h := rfl
@[simp] theorem State.pinSet_t (v : Level) : (s.pinSet v).t = s.t := rfl
@[simp] theorem State.pinSet_holdc (v : Level) : (s.pinSet v).holdc = s.holdc := rfl
@[simp] theorem State.pinSet_cnt (v : Level) : (s.pinSet v).cnt = s.cnt := rfl
@[simp] theorem State.pinSet_exp (v : Level) : (s.pinSet v).exp = s.exp := rfl
@[simp] theorem State.pinSet_bud (v : Level) : (s.pinSet v).bud = s.bud := rfl
@[simp] theorem State.pinSet_frame (v : Level) : (s.pinSet v).frame = s.frame := rfl
@[simp] theorem State.pinSet_pinSel (v : Level) : (s.pinSet v).pinSel = s.pinSel := rfl
@[simp] theorem State.pinSet_pinOe (v : Level) : (s.pinSet v).pinOe = s.pinOe := rfl
@[simp] theorem State.pinSet_pinOut (v : Level) : (s.pinSet v).pinOut = v := rfl
@[simp] theorem State.pinSet_rspValid (v : Level) : (s.pinSet v).rspValid = s.rspValid := rfl
@[simp] theorem State.pinSet_rspStatus (v : Level) : (s.pinSet v).rspStatus = s.rspStatus := rfl
@[simp] theorem State.pinSet_rspHandle (v : Level) : (s.pinSet v).rspHandle = s.rspHandle := rfl
@[simp] theorem State.pinSet_rspReading (v : Level) : (s.pinSet v).rspReading = s.rspReading := rfl
@[simp] theorem State.pinSet_slots (v : Level) : (s.pinSet v).slots = s.slots := rfl
@[simp] theorem State.pinSet_rspArgs (v : Level) : (s.pinSet v).rspArgs = s.rspArgs := rfl
@[simp] theorem State.pinSet_ovhLeft (v : Level) : (s.pinSet v).ovhLeft = s.ovhLeft := rfl
@[simp] theorem State.pinSet_params (v : Level) : (s.pinSet v).params = s.params := rfl
@[simp] theorem State.pinSet_inp (v : Level) : (s.pinSet v).inp = s.inp := rfl
@[simp] theorem State.pinSet_inputs (v : Level) : (s.pinSet v).inputs = s.inputs := rfl
@[simp] theorem State.pinSet_drawn (v : Level) : (s.pinSet v).drawn = s.drawn := rfl
@[simp] theorem State.pinSet_trace (v : Level) : (s.pinSet v).trace = .set s.pinSel v :: s.trace := rfl

@[simp] theorem State.readNow_phase : s.readNow.phase = s.phase := rfl
@[simp] theorem State.readNow_biti : s.readNow.biti = s.biti := rfl
@[simp] theorem State.readNow_cmd : s.readNow.cmd = s.cmd := rfl
@[simp] theorem State.readNow_h : s.readNow.h = s.h := rfl
@[simp] theorem State.readNow_t : s.readNow.t = s.inp.now := rfl
@[simp] theorem State.readNow_holdc : s.readNow.holdc = s.holdc := rfl
@[simp] theorem State.readNow_cnt : s.readNow.cnt = s.cnt := rfl
@[simp] theorem State.readNow_exp : s.readNow.exp = s.exp := rfl
@[simp] theorem State.readNow_bud : s.readNow.bud = s.bud := rfl
@[simp] theorem State.readNow_frame : s.readNow.frame = s.frame := rfl
@[simp] theorem State.readNow_pinSel : s.readNow.pinSel = s.pinSel := rfl
@[simp] theorem State.readNow_pinOe : s.readNow.pinOe = s.pinOe := rfl
@[simp] theorem State.readNow_pinOut : s.readNow.pinOut = s.pinOut := rfl
@[simp] theorem State.readNow_rspValid : s.readNow.rspValid = s.rspValid := rfl
@[simp] theorem State.readNow_rspStatus : s.readNow.rspStatus = s.rspStatus := rfl
@[simp] theorem State.readNow_rspHandle : s.readNow.rspHandle = s.rspHandle := rfl
@[simp] theorem State.readNow_rspReading : s.readNow.rspReading = s.rspReading := rfl
@[simp] theorem State.readNow_slots : s.readNow.slots = s.slots := rfl
@[simp] theorem State.readNow_rspArgs : s.readNow.rspArgs = s.rspArgs := rfl
@[simp] theorem State.readNow_ovhLeft : s.readNow.ovhLeft = s.ovhLeft := rfl
@[simp] theorem State.readNow_params : s.readNow.params = s.params := rfl
@[simp] theorem State.readNow_inp : s.readNow.inp = s.inp := rfl
@[simp] theorem State.readNow_inputs : s.readNow.inputs = s.inputs := rfl
@[simp] theorem State.readNow_drawn : s.readNow.drawn = s.drawn := rfl
@[simp] theorem State.readNow_trace : s.readNow.trace = .now s.inp.now :: s.trace := rfl

@[simp] theorem State.putSlot_phase (k : Nat) (c : Slot) : (s.putSlot k c).phase = s.phase := rfl
@[simp] theorem State.putSlot_biti (k : Nat) (c : Slot) : (s.putSlot k c).biti = s.biti := rfl
@[simp] theorem State.putSlot_cmd (k : Nat) (c : Slot) : (s.putSlot k c).cmd = s.cmd := rfl
@[simp] theorem State.putSlot_h (k : Nat) (c : Slot) : (s.putSlot k c).h = s.h := rfl
@[simp] theorem State.putSlot_t (k : Nat) (c : Slot) : (s.putSlot k c).t = s.t := rfl
@[simp] theorem State.putSlot_holdc (k : Nat) (c : Slot) : (s.putSlot k c).holdc = s.holdc := rfl
@[simp] theorem State.putSlot_cnt (k : Nat) (c : Slot) : (s.putSlot k c).cnt = s.cnt := rfl
@[simp] theorem State.putSlot_exp (k : Nat) (c : Slot) : (s.putSlot k c).exp = s.exp := rfl
@[simp] theorem State.putSlot_bud (k : Nat) (c : Slot) : (s.putSlot k c).bud = s.bud := rfl
@[simp] theorem State.putSlot_frame (k : Nat) (c : Slot) : (s.putSlot k c).frame = s.frame := rfl
@[simp] theorem State.putSlot_pinSel (k : Nat) (c : Slot) : (s.putSlot k c).pinSel = s.pinSel := rfl
@[simp] theorem State.putSlot_pinOe (k : Nat) (c : Slot) : (s.putSlot k c).pinOe = s.pinOe := rfl
@[simp] theorem State.putSlot_pinOut (k : Nat) (c : Slot) : (s.putSlot k c).pinOut = s.pinOut := rfl
@[simp] theorem State.putSlot_rspValid (k : Nat) (c : Slot) : (s.putSlot k c).rspValid = s.rspValid := rfl
@[simp] theorem State.putSlot_rspStatus (k : Nat) (c : Slot) : (s.putSlot k c).rspStatus = s.rspStatus := rfl
@[simp] theorem State.putSlot_rspHandle (k : Nat) (c : Slot) : (s.putSlot k c).rspHandle = s.rspHandle := rfl
@[simp] theorem State.putSlot_rspReading (k : Nat) (c : Slot) : (s.putSlot k c).rspReading = s.rspReading := rfl
@[simp] theorem State.putSlot_slots (k : Nat) (c : Slot) : (s.putSlot k c).slots = s.slots.set k c := rfl
@[simp] theorem State.putSlot_rspArgs (k : Nat) (c : Slot) : (s.putSlot k c).rspArgs = s.rspArgs := rfl
@[simp] theorem State.putSlot_ovhLeft (k : Nat) (c : Slot) : (s.putSlot k c).ovhLeft = s.ovhLeft := rfl
@[simp] theorem State.putSlot_params (k : Nat) (c : Slot) : (s.putSlot k c).params = s.params := rfl
@[simp] theorem State.putSlot_inp (k : Nat) (c : Slot) : (s.putSlot k c).inp = s.inp := rfl
@[simp] theorem State.putSlot_inputs (k : Nat) (c : Slot) : (s.putSlot k c).inputs = s.inputs := rfl
@[simp] theorem State.putSlot_drawn (k : Nat) (c : Slot) : (s.putSlot k c).drawn = s.drawn := rfl
@[simp] theorem State.putSlot_trace (k : Nat) (c : Slot) : (s.putSlot k c).trace = s.trace := rfl

@[simp] theorem State.goto_phase (p : Phase) : (s.goto p).phase = p := rfl
@[simp] theorem State.goto_biti (p : Phase) : (s.goto p).biti = s.biti := rfl
@[simp] theorem State.goto_cmd (p : Phase) : (s.goto p).cmd = s.cmd := rfl
@[simp] theorem State.goto_h (p : Phase) : (s.goto p).h = s.h := rfl
@[simp] theorem State.goto_t (p : Phase) : (s.goto p).t = s.t := rfl
@[simp] theorem State.goto_holdc (p : Phase) : (s.goto p).holdc = s.holdc := rfl
@[simp] theorem State.goto_cnt (p : Phase) : (s.goto p).cnt = s.cnt := rfl
@[simp] theorem State.goto_exp (p : Phase) : (s.goto p).exp = s.exp := rfl
@[simp] theorem State.goto_bud (p : Phase) : (s.goto p).bud = s.bud := rfl
@[simp] theorem State.goto_frame (p : Phase) : (s.goto p).frame = s.frame := rfl
@[simp] theorem State.goto_pinSel (p : Phase) : (s.goto p).pinSel = s.pinSel := rfl
@[simp] theorem State.goto_pinOe (p : Phase) : (s.goto p).pinOe = s.pinOe := rfl
@[simp] theorem State.goto_pinOut (p : Phase) : (s.goto p).pinOut = s.pinOut := rfl
@[simp] theorem State.goto_rspValid (p : Phase) : (s.goto p).rspValid = s.rspValid := rfl
@[simp] theorem State.goto_rspStatus (p : Phase) : (s.goto p).rspStatus = s.rspStatus := rfl
@[simp] theorem State.goto_rspHandle (p : Phase) : (s.goto p).rspHandle = s.rspHandle := rfl
@[simp] theorem State.goto_rspReading (p : Phase) : (s.goto p).rspReading = s.rspReading := rfl
@[simp] theorem State.goto_slots (p : Phase) : (s.goto p).slots = s.slots := rfl
@[simp] theorem State.goto_rspArgs (p : Phase) : (s.goto p).rspArgs = s.rspArgs := rfl
@[simp] theorem State.goto_ovhLeft (p : Phase) : (s.goto p).ovhLeft = s.ovhLeft := rfl
@[simp] theorem State.goto_params (p : Phase) : (s.goto p).params = s.params := rfl
@[simp] theorem State.goto_inp (p : Phase) : (s.goto p).inp = s.inp := rfl
@[simp] theorem State.goto_inputs (p : Phase) : (s.goto p).inputs = s.inputs := rfl
@[simp] theorem State.goto_drawn (p : Phase) : (s.goto p).drawn = s.drawn := rfl
@[simp] theorem State.goto_trace (p : Phase) : (s.goto p).trace = s.trace := rfl

@[simp] theorem State.startHold_phase (p : Phase) (n : HoldCount) : (s.startHold p n).phase = p := rfl
@[simp] theorem State.startHold_biti (p : Phase) (n : HoldCount) : (s.startHold p n).biti = s.biti := rfl
@[simp] theorem State.startHold_cmd (p : Phase) (n : HoldCount) : (s.startHold p n).cmd = s.cmd := rfl
@[simp] theorem State.startHold_h (p : Phase) (n : HoldCount) : (s.startHold p n).h = s.h := rfl
@[simp] theorem State.startHold_t (p : Phase) (n : HoldCount) : (s.startHold p n).t = s.t := rfl
@[simp] theorem State.startHold_holdc (p : Phase) (n : HoldCount) : (s.startHold p n).holdc = n := rfl
@[simp] theorem State.startHold_cnt (p : Phase) (n : HoldCount) : (s.startHold p n).cnt = s.cnt := rfl
@[simp] theorem State.startHold_exp (p : Phase) (n : HoldCount) : (s.startHold p n).exp = s.exp := rfl
@[simp] theorem State.startHold_bud (p : Phase) (n : HoldCount) : (s.startHold p n).bud = s.bud := rfl
@[simp] theorem State.startHold_frame (p : Phase) (n : HoldCount) : (s.startHold p n).frame = s.frame := rfl
@[simp] theorem State.startHold_pinSel (p : Phase) (n : HoldCount) : (s.startHold p n).pinSel = s.pinSel := rfl
@[simp] theorem State.startHold_pinOe (p : Phase) (n : HoldCount) : (s.startHold p n).pinOe = s.pinOe := rfl
@[simp] theorem State.startHold_pinOut (p : Phase) (n : HoldCount) : (s.startHold p n).pinOut = s.pinOut := rfl
@[simp] theorem State.startHold_rspValid (p : Phase) (n : HoldCount) : (s.startHold p n).rspValid = s.rspValid := rfl
@[simp] theorem State.startHold_rspStatus (p : Phase) (n : HoldCount) : (s.startHold p n).rspStatus = s.rspStatus := rfl
@[simp] theorem State.startHold_rspHandle (p : Phase) (n : HoldCount) : (s.startHold p n).rspHandle = s.rspHandle := rfl
@[simp] theorem State.startHold_rspReading (p : Phase) (n : HoldCount) : (s.startHold p n).rspReading = s.rspReading := rfl
@[simp] theorem State.startHold_slots (p : Phase) (n : HoldCount) : (s.startHold p n).slots = s.slots := rfl
@[simp] theorem State.startHold_rspArgs (p : Phase) (n : HoldCount) : (s.startHold p n).rspArgs = s.rspArgs := rfl
@[simp] theorem State.startHold_ovhLeft (p : Phase) (n : HoldCount) : (s.startHold p n).ovhLeft = s.ovhLeft := rfl
@[simp] theorem State.startHold_params (p : Phase) (n : HoldCount) : (s.startHold p n).params = s.params := rfl
@[simp] theorem State.startHold_inp (p : Phase) (n : HoldCount) : (s.startHold p n).inp = s.inp := rfl
@[simp] theorem State.startHold_inputs (p : Phase) (n : HoldCount) : (s.startHold p n).inputs = s.inputs := rfl
@[simp] theorem State.startHold_drawn (p : Phase) (n : HoldCount) : (s.startHold p n).drawn = s.drawn := rfl
@[simp] theorem State.startHold_trace (p : Phase) (n : HoldCount) : (s.startHold p n).trace = s.trace := rfl

@[simp] theorem State.holdEvent_phase (n : HoldCount) : (s.holdEvent n).phase = s.phase := rfl
@[simp] theorem State.holdEvent_biti (n : HoldCount) : (s.holdEvent n).biti = s.biti := rfl
@[simp] theorem State.holdEvent_cmd (n : HoldCount) : (s.holdEvent n).cmd = s.cmd := rfl
@[simp] theorem State.holdEvent_h (n : HoldCount) : (s.holdEvent n).h = s.h := rfl
@[simp] theorem State.holdEvent_t (n : HoldCount) : (s.holdEvent n).t = s.t := rfl
@[simp] theorem State.holdEvent_holdc (n : HoldCount) : (s.holdEvent n).holdc = s.holdc := rfl
@[simp] theorem State.holdEvent_cnt (n : HoldCount) : (s.holdEvent n).cnt = s.cnt := rfl
@[simp] theorem State.holdEvent_exp (n : HoldCount) : (s.holdEvent n).exp = s.exp := rfl
@[simp] theorem State.holdEvent_bud (n : HoldCount) : (s.holdEvent n).bud = s.bud := rfl
@[simp] theorem State.holdEvent_frame (n : HoldCount) : (s.holdEvent n).frame = s.frame := rfl
@[simp] theorem State.holdEvent_pinSel (n : HoldCount) : (s.holdEvent n).pinSel = s.pinSel := rfl
@[simp] theorem State.holdEvent_pinOe (n : HoldCount) : (s.holdEvent n).pinOe = s.pinOe := rfl
@[simp] theorem State.holdEvent_pinOut (n : HoldCount) : (s.holdEvent n).pinOut = s.pinOut := rfl
@[simp] theorem State.holdEvent_rspValid (n : HoldCount) : (s.holdEvent n).rspValid = s.rspValid := rfl
@[simp] theorem State.holdEvent_rspStatus (n : HoldCount) : (s.holdEvent n).rspStatus = s.rspStatus := rfl
@[simp] theorem State.holdEvent_rspHandle (n : HoldCount) : (s.holdEvent n).rspHandle = s.rspHandle := rfl
@[simp] theorem State.holdEvent_rspReading (n : HoldCount) : (s.holdEvent n).rspReading = s.rspReading := rfl
@[simp] theorem State.holdEvent_slots (n : HoldCount) : (s.holdEvent n).slots = s.slots := rfl
@[simp] theorem State.holdEvent_rspArgs (n : HoldCount) : (s.holdEvent n).rspArgs = s.rspArgs := rfl
@[simp] theorem State.holdEvent_ovhLeft (n : HoldCount) : (s.holdEvent n).ovhLeft = s.ovhLeft := rfl
@[simp] theorem State.holdEvent_params (n : HoldCount) : (s.holdEvent n).params = s.params := rfl
@[simp] theorem State.holdEvent_inp (n : HoldCount) : (s.holdEvent n).inp = s.inp := rfl
@[simp] theorem State.holdEvent_inputs (n : HoldCount) : (s.holdEvent n).inputs = s.inputs := rfl
@[simp] theorem State.holdEvent_drawn (n : HoldCount) : (s.holdEvent n).drawn = s.drawn := rfl
@[simp] theorem State.holdEvent_trace (n : HoldCount) : (s.holdEvent n).trace = .hold n.toNat :: s.trace := rfl

@[simp] theorem State.holdTick_phase : s.holdTick.phase = s.phase := rfl
@[simp] theorem State.holdTick_biti : s.holdTick.biti = s.biti := rfl
@[simp] theorem State.holdTick_cmd : s.holdTick.cmd = s.cmd := rfl
@[simp] theorem State.holdTick_h : s.holdTick.h = s.h := rfl
@[simp] theorem State.holdTick_t : s.holdTick.t = s.t := rfl
@[simp] theorem State.holdTick_holdc : s.holdTick.holdc = s.holdc - 1#20 := rfl
@[simp] theorem State.holdTick_cnt : s.holdTick.cnt = s.cnt := rfl
@[simp] theorem State.holdTick_exp : s.holdTick.exp = s.exp := rfl
@[simp] theorem State.holdTick_bud : s.holdTick.bud = s.bud := rfl
@[simp] theorem State.holdTick_frame : s.holdTick.frame = s.frame := rfl
@[simp] theorem State.holdTick_pinSel : s.holdTick.pinSel = s.pinSel := rfl
@[simp] theorem State.holdTick_pinOe : s.holdTick.pinOe = s.pinOe := rfl
@[simp] theorem State.holdTick_pinOut : s.holdTick.pinOut = s.pinOut := rfl
@[simp] theorem State.holdTick_rspValid : s.holdTick.rspValid = s.rspValid := rfl
@[simp] theorem State.holdTick_rspStatus : s.holdTick.rspStatus = s.rspStatus := rfl
@[simp] theorem State.holdTick_rspHandle : s.holdTick.rspHandle = s.rspHandle := rfl
@[simp] theorem State.holdTick_rspReading : s.holdTick.rspReading = s.rspReading := rfl
@[simp] theorem State.holdTick_slots : s.holdTick.slots = s.slots := rfl
@[simp] theorem State.holdTick_rspArgs : s.holdTick.rspArgs = s.rspArgs := rfl
@[simp] theorem State.holdTick_ovhLeft : s.holdTick.ovhLeft = s.ovhLeft := rfl
@[simp] theorem State.holdTick_params : s.holdTick.params = s.params := rfl
@[simp] theorem State.holdTick_inp : s.holdTick.inp = s.inp := rfl
@[simp] theorem State.holdTick_inputs : s.holdTick.inputs = s.inputs := rfl
@[simp] theorem State.holdTick_drawn : s.holdTick.drawn = s.drawn := rfl
@[simp] theorem State.holdTick_trace : s.holdTick.trace = s.trace := rfl

@[simp] theorem State.startWait_phase (p : Phase) (e : Level) (b : Count) : (s.startWait p e b).phase = p := rfl
@[simp] theorem State.startWait_biti (p : Phase) (e : Level) (b : Count) : (s.startWait p e b).biti = s.biti := rfl
@[simp] theorem State.startWait_cmd (p : Phase) (e : Level) (b : Count) : (s.startWait p e b).cmd = s.cmd := rfl
@[simp] theorem State.startWait_h (p : Phase) (e : Level) (b : Count) : (s.startWait p e b).h = s.h := rfl
@[simp] theorem State.startWait_t (p : Phase) (e : Level) (b : Count) : (s.startWait p e b).t = s.t := rfl
@[simp] theorem State.startWait_holdc (p : Phase) (e : Level) (b : Count) : (s.startWait p e b).holdc = s.holdc := rfl
@[simp] theorem State.startWait_cnt (p : Phase) (e : Level) (b : Count) : (s.startWait p e b).cnt = 0#7 := rfl
@[simp] theorem State.startWait_exp (p : Phase) (e : Level) (b : Count) : (s.startWait p e b).exp = e := rfl
@[simp] theorem State.startWait_bud (p : Phase) (e : Level) (b : Count) : (s.startWait p e b).bud = b := rfl
@[simp] theorem State.startWait_frame (p : Phase) (e : Level) (b : Count) : (s.startWait p e b).frame = s.frame := rfl
@[simp] theorem State.startWait_pinSel (p : Phase) (e : Level) (b : Count) : (s.startWait p e b).pinSel = s.pinSel := rfl
@[simp] theorem State.startWait_pinOe (p : Phase) (e : Level) (b : Count) : (s.startWait p e b).pinOe = s.pinOe := rfl
@[simp] theorem State.startWait_pinOut (p : Phase) (e : Level) (b : Count) : (s.startWait p e b).pinOut = s.pinOut := rfl
@[simp] theorem State.startWait_rspValid (p : Phase) (e : Level) (b : Count) : (s.startWait p e b).rspValid = s.rspValid := rfl
@[simp] theorem State.startWait_rspStatus (p : Phase) (e : Level) (b : Count) : (s.startWait p e b).rspStatus = s.rspStatus := rfl
@[simp] theorem State.startWait_rspHandle (p : Phase) (e : Level) (b : Count) : (s.startWait p e b).rspHandle = s.rspHandle := rfl
@[simp] theorem State.startWait_rspReading (p : Phase) (e : Level) (b : Count) : (s.startWait p e b).rspReading = s.rspReading := rfl
@[simp] theorem State.startWait_slots (p : Phase) (e : Level) (b : Count) : (s.startWait p e b).slots = s.slots := rfl
@[simp] theorem State.startWait_rspArgs (p : Phase) (e : Level) (b : Count) : (s.startWait p e b).rspArgs = s.rspArgs := rfl
@[simp] theorem State.startWait_ovhLeft (p : Phase) (e : Level) (b : Count) : (s.startWait p e b).ovhLeft = s.ovhLeft := rfl
@[simp] theorem State.startWait_params (p : Phase) (e : Level) (b : Count) : (s.startWait p e b).params = s.params := rfl
@[simp] theorem State.startWait_inp (p : Phase) (e : Level) (b : Count) : (s.startWait p e b).inp = s.inp := rfl
@[simp] theorem State.startWait_inputs (p : Phase) (e : Level) (b : Count) : (s.startWait p e b).inputs = s.inputs := rfl
@[simp] theorem State.startWait_drawn (p : Phase) (e : Level) (b : Count) : (s.startWait p e b).drawn = s.drawn := rfl
@[simp] theorem State.startWait_trace (p : Phase) (e : Level) (b : Count) : (s.startWait p e b).trace = s.trace := rfl

@[simp] theorem State.respond_phase (r : Response) : (s.respond r).phase = .respond := rfl
@[simp] theorem State.respond_biti (r : Response) : (s.respond r).biti = s.biti := rfl
@[simp] theorem State.respond_cmd (r : Response) : (s.respond r).cmd = s.cmd := rfl
@[simp] theorem State.respond_h (r : Response) : (s.respond r).h = s.h := rfl
@[simp] theorem State.respond_t (r : Response) : (s.respond r).t = s.t := rfl
@[simp] theorem State.respond_holdc (r : Response) : (s.respond r).holdc = s.holdc := rfl
@[simp] theorem State.respond_cnt (r : Response) : (s.respond r).cnt = s.cnt := rfl
@[simp] theorem State.respond_exp (r : Response) : (s.respond r).exp = s.exp := rfl
@[simp] theorem State.respond_bud (r : Response) : (s.respond r).bud = s.bud := rfl
@[simp] theorem State.respond_frame (r : Response) : (s.respond r).frame = s.frame := rfl
@[simp] theorem State.respond_pinSel (r : Response) : (s.respond r).pinSel = s.pinSel := rfl
@[simp] theorem State.respond_pinOe (r : Response) : (s.respond r).pinOe = s.pinOe := rfl
@[simp] theorem State.respond_pinOut (r : Response) : (s.respond r).pinOut = s.pinOut := rfl
@[simp] theorem State.respond_rspValid (r : Response) : (s.respond r).rspValid = s.rspValid := rfl
@[simp] theorem State.respond_rspStatus (r : Response) : (s.respond r).rspStatus = s.rspStatus := rfl
@[simp] theorem State.respond_rspHandle (r : Response) : (s.respond r).rspHandle = s.rspHandle := rfl
@[simp] theorem State.respond_rspReading (r : Response) : (s.respond r).rspReading = s.rspReading := rfl
@[simp] theorem State.respond_slots (r : Response) : (s.respond r).slots = s.slots := rfl
@[simp] theorem State.respond_rspArgs (r : Response) : (s.respond r).rspArgs = r := rfl
@[simp] theorem State.respond_ovhLeft (r : Response) : (s.respond r).ovhLeft = s.ovhLeft := rfl
@[simp] theorem State.respond_params (r : Response) : (s.respond r).params = s.params := rfl
@[simp] theorem State.respond_inp (r : Response) : (s.respond r).inp = s.inp := rfl
@[simp] theorem State.respond_inputs (r : Response) : (s.respond r).inputs = s.inputs := rfl
@[simp] theorem State.respond_drawn (r : Response) : (s.respond r).drawn = s.drawn := rfl
@[simp] theorem State.respond_trace (r : Response) : (s.respond r).trace = s.trace := rfl

@[simp] theorem State.abort_phase (st : Status) : (s.abort st).phase = .respond := rfl
@[simp] theorem State.abort_biti (st : Status) : (s.abort st).biti = s.biti := rfl
@[simp] theorem State.abort_cmd (st : Status) : (s.abort st).cmd = s.cmd := rfl
@[simp] theorem State.abort_h (st : Status) : (s.abort st).h = s.h := rfl
@[simp] theorem State.abort_t (st : Status) : (s.abort st).t = s.t := rfl
@[simp] theorem State.abort_holdc (st : Status) : (s.abort st).holdc = s.holdc := rfl
@[simp] theorem State.abort_cnt (st : Status) : (s.abort st).cnt = s.cnt := rfl
@[simp] theorem State.abort_exp (st : Status) : (s.abort st).exp = s.exp := rfl
@[simp] theorem State.abort_bud (st : Status) : (s.abort st).bud = s.bud := rfl
@[simp] theorem State.abort_frame (st : Status) : (s.abort st).frame = s.frame := rfl
@[simp] theorem State.abort_pinSel (st : Status) : (s.abort st).pinSel = s.pinSel := rfl
@[simp] theorem State.abort_pinOe (st : Status) : (s.abort st).pinOe = s.pinOe := rfl
@[simp] theorem State.abort_pinOut (st : Status) : (s.abort st).pinOut = s.pinOut := rfl
@[simp] theorem State.abort_rspValid (st : Status) : (s.abort st).rspValid = s.rspValid := rfl
@[simp] theorem State.abort_rspStatus (st : Status) : (s.abort st).rspStatus = s.rspStatus := rfl
@[simp] theorem State.abort_rspHandle (st : Status) : (s.abort st).rspHandle = s.rspHandle := rfl
@[simp] theorem State.abort_rspReading (st : Status) : (s.abort st).rspReading = s.rspReading := rfl
@[simp] theorem State.abort_slots (st : Status) : (s.abort st).slots = s.slots := rfl
@[simp] theorem State.abort_rspArgs (st : Status) : (s.abort st).rspArgs = ⟨st, none, none⟩ := rfl
@[simp] theorem State.abort_ovhLeft (st : Status) : (s.abort st).ovhLeft = s.ovhLeft := rfl
@[simp] theorem State.abort_params (st : Status) : (s.abort st).params = s.params := rfl
@[simp] theorem State.abort_inp (st : Status) : (s.abort st).inp = s.inp := rfl
@[simp] theorem State.abort_inputs (st : Status) : (s.abort st).inputs = s.inputs := rfl
@[simp] theorem State.abort_drawn (st : Status) : (s.abort st).drawn = s.drawn := rfl
@[simp] theorem State.abort_trace (st : Status) : (s.abort st).trace = s.trace := rfl

@[simp] theorem State.deliver_phase : s.deliver.phase = .idle := rfl
@[simp] theorem State.deliver_biti : s.deliver.biti = s.biti := rfl
@[simp] theorem State.deliver_cmd : s.deliver.cmd = s.cmd := rfl
@[simp] theorem State.deliver_h : s.deliver.h = s.h := rfl
@[simp] theorem State.deliver_t : s.deliver.t = s.t := rfl
@[simp] theorem State.deliver_holdc : s.deliver.holdc = s.holdc := rfl
@[simp] theorem State.deliver_cnt : s.deliver.cnt = s.cnt := rfl
@[simp] theorem State.deliver_exp : s.deliver.exp = s.exp := rfl
@[simp] theorem State.deliver_bud : s.deliver.bud = s.bud := rfl
@[simp] theorem State.deliver_frame : s.deliver.frame = s.frame := rfl
@[simp] theorem State.deliver_pinSel : s.deliver.pinSel = s.pinSel := rfl
@[simp] theorem State.deliver_pinOe : s.deliver.pinOe = s.pinOe := rfl
@[simp] theorem State.deliver_pinOut : s.deliver.pinOut = s.pinOut := rfl
@[simp] theorem State.deliver_rspValid : s.deliver.rspValid = true := rfl
@[simp] theorem State.deliver_rspStatus : s.deliver.rspStatus = s.rspArgs.status.code := rfl
@[simp] theorem State.deliver_rspHandle : s.deliver.rspHandle = s.rspArgs.handle.getD (s.freeAt 19 8) := rfl
@[simp] theorem State.deliver_rspReading : s.deliver.rspReading = s.rspArgs.reading.getD (s.freeAt 20 32) := rfl
@[simp] theorem State.deliver_slots : s.deliver.slots = s.slots := rfl
@[simp] theorem State.deliver_rspArgs : s.deliver.rspArgs = s.rspArgs := rfl
@[simp] theorem State.deliver_ovhLeft : s.deliver.ovhLeft = s.ovhLeft := rfl
@[simp] theorem State.deliver_params : s.deliver.params = s.params := rfl
@[simp] theorem State.deliver_inp : s.deliver.inp = s.inp := rfl
@[simp] theorem State.deliver_inputs : s.deliver.inputs = s.inputs := rfl
@[simp] theorem State.deliver_drawn : s.deliver.drawn = s.drawn + 1 := rfl
@[simp] theorem State.deliver_trace : s.deliver.trace = .rsp s.rspArgs :: s.trace := rfl

@[simp] theorem State.discardFrame_phase : s.discardFrame.phase = s.phase := rfl
@[simp] theorem State.discardFrame_biti : s.discardFrame.biti = s.freeAt 1 6 := rfl
@[simp] theorem State.discardFrame_cmd : s.discardFrame.cmd = s.cmd := rfl
@[simp] theorem State.discardFrame_h : s.discardFrame.h = s.h := rfl
@[simp] theorem State.discardFrame_t : s.discardFrame.t = s.t := rfl
@[simp] theorem State.discardFrame_holdc : s.discardFrame.holdc = s.freeAt 5 20 := rfl
@[simp] theorem State.discardFrame_cnt : s.discardFrame.cnt = s.freeAt 6 7 := rfl
@[simp] theorem State.discardFrame_exp : s.discardFrame.exp = levelOf (s.freeAt 7 1) := rfl
@[simp] theorem State.discardFrame_bud : s.discardFrame.bud = s.freeAt 8 7 := rfl
@[simp] theorem State.discardFrame_frame : s.discardFrame.frame = ⟨s.freeAt 9 8, s.freeAt 10 8, s.freeAt 11 8, s.freeAt 12 8, s.freeAt 13 8⟩ := rfl
@[simp] theorem State.discardFrame_pinSel : s.discardFrame.pinSel = s.pinSel := rfl
@[simp] theorem State.discardFrame_pinOe : s.discardFrame.pinOe = s.pinOe := rfl
@[simp] theorem State.discardFrame_pinOut : s.discardFrame.pinOut = s.pinOut := rfl
@[simp] theorem State.discardFrame_rspValid : s.discardFrame.rspValid = s.rspValid := rfl
@[simp] theorem State.discardFrame_rspStatus : s.discardFrame.rspStatus = s.rspStatus := rfl
@[simp] theorem State.discardFrame_rspHandle : s.discardFrame.rspHandle = s.rspHandle := rfl
@[simp] theorem State.discardFrame_rspReading : s.discardFrame.rspReading = s.rspReading := rfl
@[simp] theorem State.discardFrame_slots : s.discardFrame.slots = s.slots := rfl
@[simp] theorem State.discardFrame_rspArgs : s.discardFrame.rspArgs = s.rspArgs := rfl
@[simp] theorem State.discardFrame_ovhLeft : s.discardFrame.ovhLeft = s.ovhLeft := rfl
@[simp] theorem State.discardFrame_params : s.discardFrame.params = s.params := rfl
@[simp] theorem State.discardFrame_inp : s.discardFrame.inp = s.inp := rfl
@[simp] theorem State.discardFrame_inputs : s.discardFrame.inputs = s.inputs := rfl
@[simp] theorem State.discardFrame_drawn : s.discardFrame.drawn = s.drawn + 1 := rfl
@[simp] theorem State.discardFrame_trace : s.discardFrame.trace = s.trace := rfl

@[simp] theorem State.sample_phase : s.sample.phase = s.phase := rfl
@[simp] theorem State.sample_biti : s.sample.biti = s.biti := rfl
@[simp] theorem State.sample_cmd : s.sample.cmd = s.cmd := rfl
@[simp] theorem State.sample_h : s.sample.h = s.h := rfl
@[simp] theorem State.sample_t : s.sample.t = s.t := rfl
@[simp] theorem State.sample_holdc : s.sample.holdc = s.holdc := rfl
@[simp] theorem State.sample_cnt : s.sample.cnt = s.cnt := rfl
@[simp] theorem State.sample_exp : s.sample.exp = s.exp := rfl
@[simp] theorem State.sample_bud : s.sample.bud = s.bud := rfl
@[simp] theorem State.sample_frame : s.sample.frame = s.frame := rfl
@[simp] theorem State.sample_pinSel : s.sample.pinSel = s.pinSel := rfl
@[simp] theorem State.sample_pinOe : s.sample.pinOe = s.pinOe := rfl
@[simp] theorem State.sample_pinOut : s.sample.pinOut = s.pinOut := rfl
@[simp] theorem State.sample_rspValid : s.sample.rspValid = s.rspValid := rfl
@[simp] theorem State.sample_rspStatus : s.sample.rspStatus = s.rspStatus := rfl
@[simp] theorem State.sample_rspHandle : s.sample.rspHandle = s.rspHandle := rfl
@[simp] theorem State.sample_rspReading : s.sample.rspReading = s.rspReading := rfl
@[simp] theorem State.sample_slots : s.sample.slots = s.slots := rfl
@[simp] theorem State.sample_rspArgs : s.sample.rspArgs = s.rspArgs := rfl
@[simp] theorem State.sample_ovhLeft : s.sample.ovhLeft = s.ovhLeft := rfl
@[simp] theorem State.sample_params : s.sample.params = s.params := rfl
@[simp] theorem State.sample_inp : s.sample.inp = s.inp := rfl
@[simp] theorem State.sample_inputs : s.sample.inputs = s.inputs := rfl
@[simp] theorem State.sample_drawn : s.sample.drawn = s.drawn := rfl
@[simp] theorem State.sample_trace : s.sample.trace = .get s.pinSel s.pinLevel :: s.trace := rfl

@[simp] theorem State.accept_phase (w : Word) : (s.accept w).phase = s.phase := rfl
@[simp] theorem State.accept_biti (w : Word) : (s.accept w).biti = s.biti := rfl
@[simp] theorem State.accept_cmd (w : Word) : (s.accept w).cmd = w := rfl
@[simp] theorem State.accept_h (w : Word) : (s.accept w).h = s.h := rfl
@[simp] theorem State.accept_t (w : Word) : (s.accept w).t = s.t := rfl
@[simp] theorem State.accept_holdc (w : Word) : (s.accept w).holdc = s.holdc := rfl
@[simp] theorem State.accept_cnt (w : Word) : (s.accept w).cnt = s.cnt := rfl
@[simp] theorem State.accept_exp (w : Word) : (s.accept w).exp = s.exp := rfl
@[simp] theorem State.accept_bud (w : Word) : (s.accept w).bud = s.bud := rfl
@[simp] theorem State.accept_frame (w : Word) : (s.accept w).frame = s.frame := rfl
@[simp] theorem State.accept_pinSel (w : Word) : (s.accept w).pinSel = s.pinSel := rfl
@[simp] theorem State.accept_pinOe (w : Word) : (s.accept w).pinOe = s.pinOe := rfl
@[simp] theorem State.accept_pinOut (w : Word) : (s.accept w).pinOut = s.pinOut := rfl
@[simp] theorem State.accept_rspValid (w : Word) : (s.accept w).rspValid = s.rspValid := rfl
@[simp] theorem State.accept_rspStatus (w : Word) : (s.accept w).rspStatus = s.rspStatus := rfl
@[simp] theorem State.accept_rspHandle (w : Word) : (s.accept w).rspHandle = s.rspHandle := rfl
@[simp] theorem State.accept_rspReading (w : Word) : (s.accept w).rspReading = s.rspReading := rfl
@[simp] theorem State.accept_slots (w : Word) : (s.accept w).slots = s.slots := rfl
@[simp] theorem State.accept_rspArgs (w : Word) : (s.accept w).rspArgs = s.rspArgs := rfl
@[simp] theorem State.accept_ovhLeft (w : Word) : (s.accept w).ovhLeft = Config.ovh s.drawn := rfl
@[simp] theorem State.accept_params (w : Word) : (s.accept w).params = s.params := rfl
@[simp] theorem State.accept_inp (w : Word) : (s.accept w).inp = s.inp := rfl
@[simp] theorem State.accept_inputs (w : Word) : (s.accept w).inputs = s.inputs := rfl
@[simp] theorem State.accept_drawn (w : Word) : (s.accept w).drawn = s.drawn + 1 := rfl
@[simp] theorem State.accept_trace (w : Word) : (s.accept w).trace = .cmd w :: s.trace := rfl

@[simp] theorem State.ovhTick_phase : s.ovhTick.phase = s.phase := rfl
@[simp] theorem State.ovhTick_biti : s.ovhTick.biti = s.biti := rfl
@[simp] theorem State.ovhTick_cmd : s.ovhTick.cmd = s.cmd := rfl
@[simp] theorem State.ovhTick_h : s.ovhTick.h = s.h := rfl
@[simp] theorem State.ovhTick_t : s.ovhTick.t = s.t := rfl
@[simp] theorem State.ovhTick_holdc : s.ovhTick.holdc = s.holdc := rfl
@[simp] theorem State.ovhTick_cnt : s.ovhTick.cnt = s.cnt := rfl
@[simp] theorem State.ovhTick_exp : s.ovhTick.exp = s.exp := rfl
@[simp] theorem State.ovhTick_bud : s.ovhTick.bud = s.bud := rfl
@[simp] theorem State.ovhTick_frame : s.ovhTick.frame = s.frame := rfl
@[simp] theorem State.ovhTick_pinSel : s.ovhTick.pinSel = s.pinSel := rfl
@[simp] theorem State.ovhTick_pinOe : s.ovhTick.pinOe = s.pinOe := rfl
@[simp] theorem State.ovhTick_pinOut : s.ovhTick.pinOut = s.pinOut := rfl
@[simp] theorem State.ovhTick_rspValid : s.ovhTick.rspValid = s.rspValid := rfl
@[simp] theorem State.ovhTick_rspStatus : s.ovhTick.rspStatus = s.rspStatus := rfl
@[simp] theorem State.ovhTick_rspHandle : s.ovhTick.rspHandle = s.rspHandle := rfl
@[simp] theorem State.ovhTick_rspReading : s.ovhTick.rspReading = s.rspReading := rfl
@[simp] theorem State.ovhTick_slots : s.ovhTick.slots = s.slots := rfl
@[simp] theorem State.ovhTick_rspArgs : s.ovhTick.rspArgs = s.rspArgs := rfl
@[simp] theorem State.ovhTick_ovhLeft : s.ovhTick.ovhLeft = s.ovhLeft - 1 := rfl
@[simp] theorem State.ovhTick_params : s.ovhTick.params = s.params := rfl
@[simp] theorem State.ovhTick_inp : s.ovhTick.inp = s.inp := rfl
@[simp] theorem State.ovhTick_inputs : s.ovhTick.inputs = s.inputs := rfl
@[simp] theorem State.ovhTick_drawn : s.ovhTick.drawn = s.drawn := rfl
@[simp] theorem State.ovhTick_trace : s.ovhTick.trace = s.trace := rfl

@[simp] theorem State.beginTick_phase : s.beginTick.phase = s.phase := rfl
@[simp] theorem State.beginTick_biti : s.beginTick.biti = s.biti := rfl
@[simp] theorem State.beginTick_cmd : s.beginTick.cmd = s.cmd := rfl
@[simp] theorem State.beginTick_h : s.beginTick.h = s.h := rfl
@[simp] theorem State.beginTick_t : s.beginTick.t = s.t := rfl
@[simp] theorem State.beginTick_holdc : s.beginTick.holdc = s.holdc := rfl
@[simp] theorem State.beginTick_cnt : s.beginTick.cnt = s.cnt := rfl
@[simp] theorem State.beginTick_exp : s.beginTick.exp = s.exp := rfl
@[simp] theorem State.beginTick_bud : s.beginTick.bud = s.bud := rfl
@[simp] theorem State.beginTick_frame : s.beginTick.frame = s.frame := rfl
@[simp] theorem State.beginTick_pinSel : s.beginTick.pinSel = s.pinSel := rfl
@[simp] theorem State.beginTick_pinOe : s.beginTick.pinOe = s.pinOe := rfl
@[simp] theorem State.beginTick_pinOut : s.beginTick.pinOut = s.pinOut := rfl
@[simp] theorem State.beginTick_rspValid : s.beginTick.rspValid = false := rfl
@[simp] theorem State.beginTick_rspStatus : s.beginTick.rspStatus = s.rspStatus := rfl
@[simp] theorem State.beginTick_rspHandle : s.beginTick.rspHandle = s.rspHandle := rfl
@[simp] theorem State.beginTick_rspReading : s.beginTick.rspReading = s.rspReading := rfl
@[simp] theorem State.beginTick_slots : s.beginTick.slots = s.slots := rfl
@[simp] theorem State.beginTick_rspArgs : s.beginTick.rspArgs = s.rspArgs := rfl
@[simp] theorem State.beginTick_ovhLeft : s.beginTick.ovhLeft = s.ovhLeft := rfl
@[simp] theorem State.beginTick_params : s.beginTick.params = s.params := rfl
@[simp] theorem State.beginTick_inp : s.beginTick.inp = s.inp := rfl
@[simp] theorem State.beginTick_inputs : s.beginTick.inputs = s.inputs := rfl
@[simp] theorem State.beginTick_drawn : s.beginTick.drawn = s.drawn := rfl
@[simp] theorem State.beginTick_trace : s.beginTick.trace = s.trace := rfl

@[simp] theorem State.blockReset_phase : s.blockReset.phase = .idle := rfl
@[simp] theorem State.blockReset_biti : s.blockReset.biti = s.freeAt 1 6 := rfl
@[simp] theorem State.blockReset_cmd : s.blockReset.cmd = s.freeAt 2 32 := rfl
@[simp] theorem State.blockReset_h : s.blockReset.h = s.freeAt 3 8 := rfl
@[simp] theorem State.blockReset_t : s.blockReset.t = s.freeAt 4 64 := rfl
@[simp] theorem State.blockReset_holdc : s.blockReset.holdc = s.freeAt 5 20 := rfl
@[simp] theorem State.blockReset_cnt : s.blockReset.cnt = s.freeAt 6 7 := rfl
@[simp] theorem State.blockReset_exp : s.blockReset.exp = levelOf (s.freeAt 7 1) := rfl
@[simp] theorem State.blockReset_bud : s.blockReset.bud = s.freeAt 8 7 := rfl
@[simp] theorem State.blockReset_frame : s.blockReset.frame = ⟨s.freeAt 9 8, s.freeAt 10 8, s.freeAt 11 8, s.freeAt 12 8, s.freeAt 13 8⟩ := rfl
@[simp] theorem State.blockReset_pinSel : s.blockReset.pinSel = s.freeAt 14 8 := rfl
@[simp] theorem State.blockReset_pinOe : s.blockReset.pinOe = false := rfl
@[simp] theorem State.blockReset_pinOut : s.blockReset.pinOut = true := rfl
@[simp] theorem State.blockReset_rspValid : s.blockReset.rspValid = false := rfl
@[simp] theorem State.blockReset_rspStatus : s.blockReset.rspStatus = s.freeAt 18 3 := rfl
@[simp] theorem State.blockReset_rspHandle : s.blockReset.rspHandle = s.freeAt 19 8 := rfl
@[simp] theorem State.blockReset_rspReading : s.blockReset.rspReading = s.freeAt 20 32 := rfl
@[simp] theorem State.blockReset_slots : s.blockReset.slots = resetSlots s.drawn 0 s.slots := rfl
@[simp] theorem State.blockReset_rspArgs : s.blockReset.rspArgs = s.rspArgs := rfl
@[simp] theorem State.blockReset_ovhLeft : s.blockReset.ovhLeft = 0 := rfl
@[simp] theorem State.blockReset_params : s.blockReset.params = s.params := rfl
@[simp] theorem State.blockReset_inp : s.blockReset.inp = s.inp := rfl
@[simp] theorem State.blockReset_inputs : s.blockReset.inputs = s.inputs := rfl
@[simp] theorem State.blockReset_drawn : s.blockReset.drawn = s.drawn + 1 := rfl
@[simp] theorem State.blockReset_trace : s.blockReset.trace = s.trace := rfl

@[simp] theorem State.nextTick_phase : s.nextTick.phase = s.phase := by unfold State.nextTick; split <;> rfl
@[simp] theorem State.nextTick_biti : s.nextTick.biti = s.biti := by unfold State.nextTick; split <;> rfl
@[simp] theorem State.nextTick_cmd : s.nextTick.cmd = s.cmd := by unfold State.nextTick; split <;> rfl
@[simp] theorem State.nextTick_h : s.nextTick.h = s.h := by unfold State.nextTick; split <;> rfl
@[simp] theorem State.nextTick_t : s.nextTick.t = s.t := by unfold State.nextTick; split <;> rfl
@[simp] theorem State.nextTick_holdc : s.nextTick.holdc = s.holdc := by unfold State.nextTick; split <;> rfl
@[simp] theorem State.nextTick_cnt : s.nextTick.cnt = s.cnt := by unfold State.nextTick; split <;> rfl
@[simp] theorem State.nextTick_exp : s.nextTick.exp = s.exp := by unfold State.nextTick; split <;> rfl
@[simp] theorem State.nextTick_bud : s.nextTick.bud = s.bud := by unfold State.nextTick; split <;> rfl
@[simp] theorem State.nextTick_frame : s.nextTick.frame = s.frame := by unfold State.nextTick; split <;> rfl
@[simp] theorem State.nextTick_pinSel : s.nextTick.pinSel = s.pinSel := by unfold State.nextTick; split <;> rfl
@[simp] theorem State.nextTick_pinOe : s.nextTick.pinOe = s.pinOe := by unfold State.nextTick; split <;> rfl
@[simp] theorem State.nextTick_pinOut : s.nextTick.pinOut = s.pinOut := by unfold State.nextTick; split <;> rfl
@[simp] theorem State.nextTick_rspValid : s.nextTick.rspValid = s.rspValid := by unfold State.nextTick; split <;> rfl
@[simp] theorem State.nextTick_rspStatus : s.nextTick.rspStatus = s.rspStatus := by unfold State.nextTick; split <;> rfl
@[simp] theorem State.nextTick_rspHandle : s.nextTick.rspHandle = s.rspHandle := by unfold State.nextTick; split <;> rfl
@[simp] theorem State.nextTick_rspReading : s.nextTick.rspReading = s.rspReading := by unfold State.nextTick; split <;> rfl
@[simp] theorem State.nextTick_slots : s.nextTick.slots = s.slots := by unfold State.nextTick; split <;> rfl
@[simp] theorem State.nextTick_rspArgs : s.nextTick.rspArgs = s.rspArgs := by unfold State.nextTick; split <;> rfl
@[simp] theorem State.nextTick_ovhLeft : s.nextTick.ovhLeft = s.ovhLeft := by unfold State.nextTick; split <;> rfl
@[simp] theorem State.nextTick_params : s.nextTick.params = s.params := by unfold State.nextTick; split <;> rfl
@[simp] theorem State.nextTick_trace : s.nextTick.trace = s.trace := by unfold State.nextTick; split <;> rfl

/-- Between ticks only the input ports, the given inputs and the draw counter move. -/
theorem State.nextTick_eq :
    ∃ i l n, s.nextTick = { s with inp := i, inputs := l, drawn := n } := by
  unfold State.nextTick
  split
  · exact ⟨_, _, s.drawn, rfl⟩
  · exact ⟨s.freeInputs, s.inputs, s.drawn + 1, rfl⟩

theorem State.nextTick_cons {i : Inputs} {l : List Inputs} (h : s.inputs = i :: l) :
    s.nextTick = { s with inp := i, inputs := l } := by
  simp [State.nextTick, h]

end Sys2Proof.Machine
end

