-- ==== Sys2Proof/Laws/Ops.lean ====
section
/-!
SUPPORT. One lemma per shared operation that says once everything it can do.
-/

namespace Sys2Proof.Machine

/-! ## The step -/

/-- What a step that answers a next state has done: a block reset, or one instruction, then the change of tick. -/
theorem step_cases {s t : State} (h : step s = .next t) :
    (s.inp.rst = true ∧ t = s.blockReset.nextTick) ∨
      (s.inp.rst = false ∧ ∃ u, exec s.phase.instr s.beginTick = .next u ∧ t = u.nextTick) := by
  unfold step at h
  split at h
  · rename_i hr
    exact .inl ⟨hr, (Host.Outcome.next.inj h).symm⟩
  · rename_i hr
    refine .inr ⟨by simpa using hr, ?_⟩
    split at h
    · rename_i u hu
      exact ⟨u, hu, (Host.Outcome.next.inj h).symm⟩
    · cases h
    · cases h

/-- A step without reset is its instruction's meaning and the change of tick. -/
theorem step_of_exec {s u : State} (hr : s.inp.rst = false) (h : exec s.phase.instr s.beginTick = .next u) :
    step s = .next u.nextTick := by
  simp [step, hr, h]

/-! ## One sample of WAIT -/

theorem State.waitTick_running {s : State} (f : State → Count → State) (h : s.pinLevel = s.exp) (hc : s.cnt ≠ s.bud) :
    s.waitTick f = { s.sample with cnt := s.cnt + 1#7 } := by
  simp [State.waitTick, State.waitResult, h, hc]

theorem State.waitTick_done {s : State} (f : State → Count → State) (h : s.pinLevel ≠ s.exp) :
    s.waitTick f = f s.sample s.cnt := by
  simp [State.waitTick, State.waitResult, h]

theorem State.waitTick_timeout {s : State} (f : State → Count → State) (h : s.pinLevel = s.exp) (hc : s.cnt = s.bud) :
    s.waitTick f = s.sample.acquireFail := by
  simp [State.waitTick, State.waitResult, h, hc]

/-- What one tick of a WAIT can do. -/
theorem State.waitTick_cases (s : State) (f : State → Count → State) :
    (s.pinLevel = s.exp ∧ s.cnt ≠ s.bud ∧ s.waitTick f = { s.sample with cnt := s.cnt + 1#7 }) ∨
      (s.pinLevel ≠ s.exp ∧ s.waitTick f = f s.sample s.cnt) ∨
      (s.pinLevel = s.exp ∧ s.cnt = s.bud ∧ s.waitTick f = s.sample.acquireFail) := by
  by_cases h : s.pinLevel = s.exp
  · by_cases hc : s.cnt = s.bud
    · exact .inr (.inr ⟨h, hc, s.waitTick_timeout f h hc⟩)
    · exact .inl ⟨h, hc, s.waitTick_running f h hc⟩
  · exact .inr (.inl ⟨h, s.waitTick_done f h⟩)

/-- What the head of the bit loop can do. -/
theorem State.bitLoop_cases (s : State) :
    (moreBits s.params s.biti = true ∧ s.bitLoop = s.enterBitLow) ∨
      (moreBits s.params s.biti = false ∧ s.bitLoop = s.goto .check) := by
  unfold State.bitLoop
  cases h : moreBits s.params s.biti <;> simp

/-- What the store of a bit can do: the bit is stored, BITI incremented, and BIT_LOW or CHECK entered. -/
theorem State.storeBit_cases (s : State) (c : Count) :
    (moreBits s.params (s.biti + 1#6) = true ∧
        s.storeBit c =
          ({ s with frame := s.frame.storeBit s.biti (bitOfCount s.params c), biti := s.biti + 1#6 } : State).enterBitLow) ∨
      (moreBits s.params (s.biti + 1#6) = false ∧
        s.storeBit c =
          ({ s with frame := s.frame.storeBit s.biti (bitOfCount s.params c), biti := s.biti + 1#6 } : State).goto .check) :=
  State.bitLoop_cases { s with frame := s.frame.storeBit s.biti (bitOfCount s.params c), biti := s.biti + 1#6 }

/-! ## The handle context file -/

theorem State.live_iff {s : State} {h : Byte} : s.live h = true ↔ ∃ c, s.slots[h.toNat]? = some c ∧ c.alloc = true := by
  unfold State.live State.slot?
  cases s.slots[h.toNat]? <;> simp

theorem State.live_false_iff {s : State} {h : Byte} :
    s.live h = false ↔ ∀ c, s.slots[h.toNat]? = some c → c.alloc = false := by
  unfold State.live State.slot?
  cases s.slots[h.toNat]? <;> simp

/-- The search for a free slot finds the least one, or every slot is live (spec/42_handle_commands.md R120). -/
theorem firstFree_eq_none {l : List Slot} : firstFree l = none ↔ ∀ c ∈ l, c.alloc = true := by
  induction l with
  | nil => simp [firstFree]
  | cons c l ih =>
    cases h : c.alloc <;> simp [firstFree, h, ih]

theorem firstFree_eq_some {l : List Slot} {k : Nat} {c : Slot} :
    firstFree l = some (k, c) ↔
      l[k]? = some c ∧ c.alloc = false ∧ ∀ j < k, ∃ d, l[j]? = some d ∧ d.alloc = true := by
  induction l generalizing k with
  | nil => simp [firstFree]
  | cons d l ih =>
    cases hd : d.alloc with
    | false =>
      simp only [firstFree, hd]
      constructor
      · intro h
        simp only [Option.some.injEq, Prod.mk.injEq, reduceIte, Bool.false_eq_true] at h
        obtain ⟨rfl, rfl⟩ := h
        simp [hd]
      · rintro ⟨hk, hc, hlt⟩
        cases k with
        | zero => simpa using hk
        | succ k =>
          obtain ⟨e, he, hea⟩ := hlt 0 (by omega)
          simp at he
          simp [← he, hd] at hea
    | true =>
      simp only [firstFree, hd, reduceIte]
      cases k with
      | zero =>
        constructor
        · intro h
          cases hf : firstFree l <;> simp [hf] at h
        · rintro ⟨hk, hc, -⟩
          simp at hk
          simp [← hk, hd] at hc
      | succ k =>
        have hmap : (firstFree l).map (fun kd => (kd.1 + 1, kd.2)) = some (k + 1, c) ↔
            firstFree l = some (k, c) := by
          cases firstFree l with
          | none => simp
          | some p => cases p; simp
        rw [hmap, ih]
        constructor
        · rintro ⟨hk, hc, hlt⟩
          refine ⟨by simpa using hk, hc, ?_⟩
          intro j hj
          cases j with
          | zero => exact ⟨d, by simp, hd⟩
          | succ j =>
            obtain ⟨e, he⟩ := hlt j (by omega)
            exact ⟨e, by simpa using he⟩
        · rintro ⟨hk, hc, hlt⟩
          refine ⟨by simpa using hk, hc, ?_⟩
          intro j hj
          obtain ⟨e, he⟩ := hlt (j + 1) (by omega)
          exact ⟨e, by simpa using he⟩

/-- After a block reset there are as many slots as before and each of them is free (spec/70_reset_and_hazards.md R160). -/
theorem resetSlots_length (draw k : Nat) (l : List Slot) : (resetSlots draw k l).length = l.length := by
  induction l generalizing k with
  | nil => rfl
  | cons c l ih => simp [resetSlots, ih]

theorem resetSlots_free (draw k : Nat) (l : List Slot) : ∀ c ∈ resetSlots draw k l, c.alloc = false := by
  induction l generalizing k with
  | nil => simp [resetSlots]
  | cons c l ih =>
    intro d hd
    simp only [resetSlots, List.mem_cons] at hd
    rcases hd with rfl | hd
    · rfl
    · exact ih _ d hd

/-! ## READ -/

/-- What READ's steps b and c can do. -/
theorem State.readSlot_cases (s : State) (c : Slot) :
    (c.throttled s.params s.t = true ∧ c.rvalid = true ∧ s.readSlot c = s.respond ⟨.ok, none, some c.lastReading⟩) ∨
      (c.throttled s.params s.t = true ∧ c.rvalid = false ∧ s.readSlot c = s.abort .fail) ∨
      (c.throttled s.params s.t = false ∧ s.readSlot c = (s.putSlot s.h.toNat (c.attempted s.t)).enterStartLow) := by
  unfold State.readSlot
  cases c.throttled s.params s.t <;> cases c.rvalid <;> simp

/-- What READ does from its first `Now()` on. -/
theorem State.readFrom_cases (s : State) (c : Slot) :
    (belowSettle s.params s.inp.now = true ∧
        s.readFrom c = (s.readNow.holdEvent (settleHold s.params s.inp.now)).startHold .settle (settleHold s.params s.inp.now)) ∨
      (belowSettle s.params s.inp.now = false ∧ s.readFrom c = s.readNow.readSlot c) := by
  unfold State.readFrom
  cases h : belowSettle s.params s.inp.now <;> simp [h]

/-! ## The meanings that can stop: when each answers a next state, and which -/

theorem execCreate_next {cp : Bool} {var : Variant} {pin : Nat} {s t : State} (h : execCreate cp var pin s = .next t) :
    (cp = false ∧ t = s.abort .invalidArg) ∨
      (cp = true ∧ var = .type11 ∧ firstFree s.slots = none ∧ t = s.abort .noMem) ∨
      (cp = true ∧ var = .type11 ∧ ∃ k c, firstFree s.slots = some (k, c) ∧
        t = (({ s with h := BitVec.ofNat 8 k } : State).putSlot k (c.created .type11 (BitVec.ofNat 8 pin))).respond
          ⟨.ok, some (BitVec.ofNat 8 k), none⟩) := by
  unfold execCreate at h
  cases cp with
  | false => exact .inl ⟨rfl, (by simpa using h.symm)⟩
  | true =>
    cases var with
    | type22 => simp at h
    | type11 =>
      simp only [Bool.true_eq_false, reduceIte, reduceCtorEq] at h
      cases hf : firstFree s.slots with
      | none =>
        simp only [hf] at h
        exact .inr (.inl ⟨rfl, rfl, rfl, (Host.Outcome.next.inj h).symm⟩)
      | some p =>
        obtain ⟨k, c⟩ := p
        simp only [hf] at h
        exact .inr (.inr ⟨rfl, rfl, k, c, rfl, (Host.Outcome.next.inj h).symm⟩)

theorem execDestroy_next {hp : Bool} {n : Nat} {s t : State} (h : execDestroy hp n s = .next t) :
    hp = true ∧ ∃ c, s.slots[(BitVec.ofNat 8 n).toNat]? = some c ∧ c.alloc = true ∧
      t = (({ s with h := BitVec.ofNat 8 n } : State).putSlot (BitVec.ofNat 8 n).toNat c.destroyed).respond
        ⟨.ok, none, none⟩ := by
  unfold execDestroy State.slot? at h
  cases hp with
  | false => simp at h
  | true =>
    refine ⟨rfl, ?_⟩
    simp only [Bool.true_eq_false, reduceIte] at h
    split at h
    · cases h
    · rename_i c hc
      split at h
      · rename_i ha
        exact ⟨c, hc, ha, (Host.Outcome.next.inj h).symm⟩
      · cases h

theorem execRead_next {hp dp : Bool} {n : Nat} {s t : State} (h : execRead hp dp n s = .next t) :
    ((hp = false ∨ dp = false) ∧ t = s.abort .invalidArg) ∨
      (hp = true ∧ dp = true ∧ ∃ c, s.slots[(BitVec.ofNat 8 n).toNat]? = some c ∧ c.alloc = true ∧
        t = ({ s with h := BitVec.ofNat 8 n } : State).readFrom c) := by
  unfold execRead State.slot? at h
  split at h
  · rename_i hf
    exact .inl ⟨hf, (Host.Outcome.next.inj h).symm⟩
  · rename_i hf
    simp only [not_or, Bool.not_eq_false] at hf
    refine .inr ⟨hf.1, hf.2, ?_⟩
    split at h
    · cases h
    · rename_i c hc
      split at h
      · rename_i ha
        exact ⟨c, hc, ha, (Host.Outcome.next.inj h).symm⟩
      · cases h

/-- What the idle phase can do: wait, run a command on the accepted state, or answer a reserved word. -/
theorem execPhaseIdle_cases (s : State) :
    (s.inp.cmdValid = false ∧ execPhaseIdle s = .next s) ∨
      (s.inp.cmdValid = true ∧
        ((∃ cp var pin, decodeCommand s.inp.cmdWord = .ok (.create cp var pin) ∧
            execPhaseIdle s = execCreate cp var pin (s.accept s.inp.cmdWord)) ∨
          (∃ hp dp n, decodeCommand s.inp.cmdWord = .ok (.read hp dp n) ∧
            execPhaseIdle s = execRead hp dp n (s.accept s.inp.cmdWord)) ∨
          (∃ hp n, decodeCommand s.inp.cmdWord = .ok (.destroy hp n) ∧
            execPhaseIdle s = execDestroy hp n (s.accept s.inp.cmdWord)) ∨
          ((∃ e, decodeCommand s.inp.cmdWord = .error e) ∧
            execPhaseIdle s = .next (s.accept s.inp.cmdWord).rejectWord))) := by
  unfold execPhaseIdle
  cases hv : s.inp.cmdValid with
  | false => exact .inl ⟨rfl, by simp⟩
  | true =>
    refine .inr ⟨rfl, ?_⟩
    simp only [reduceIte]
    unfold decodeCommand
    split
    · exact .inl ⟨_, _, _, rfl, rfl⟩
    · split
      · exact .inr (.inl ⟨_, _, _, rfl, rfl⟩)
      · split
        · exact .inr (.inr (.inl ⟨_, _, rfl, rfl⟩))
        · split
          · exact .inr (.inr (.inr ⟨⟨_, rfl⟩, rfl⟩))
          · exact .inr (.inr (.inr ⟨⟨_, rfl⟩, rfl⟩))

theorem execPhaseSettle_next {s t : State} (h : execPhaseSettle s = .next t) :
    (s.holdc ≠ 0#20 ∧ t = s.holdTick) ∨
      (s.holdc = 0#20 ∧ ∃ c, s.slots[s.h.toNat]? = some c ∧ t = s.readNow.readSlot c) := by
  unfold execPhaseSettle State.slot? at h
  split at h
  · rename_i hh
    split at h
    · cases h
    · rename_i c hc
      exact .inr ⟨hh, c, hc, (Host.Outcome.next.inj h).symm⟩
  · rename_i hh
    exact .inl ⟨hh, (Host.Outcome.next.inj h).symm⟩

theorem execPhaseStartLow_next {s t : State} (h : execPhaseStartLow s = .next t) :
    ∃ c, s.slots[s.h.toNat]? = some c ∧
      ((s.holdc = s.params.tStartLow ∧ c.cfgVar = .type11 ∧ t = s.startLowFirst c) ∨
        (s.holdc ≠ s.params.tStartLow ∧ t = s.startLowTick)) := by
  unfold execPhaseStartLow State.slot? at h
  split at h
  · cases h
  · rename_i c hc
    refine ⟨c, hc, ?_⟩
    split at h
    · rename_i hh
      split at h
      · cases h
      · rename_i hv
        refine .inl ⟨hh, ?_, (Host.Outcome.next.inj h).symm⟩
        cases hv' : c.cfgVar <;> simp_all
    · rename_i hh
      exact .inr ⟨hh, (Host.Outcome.next.inj h).symm⟩

/-- What a tick of START_HIGH's hold can do. -/
theorem State.startHighTick_cases (s : State) :
    (s.holdc = 0#20 ∧ s.startHighTick = (s.pinDir false).enterAckLow) ∨
      (s.holdc ≠ 0#20 ∧ s.startHighTick = s.holdTick) := by
  unfold State.startHighTick
  by_cases h : s.holdc = 0#20 <;> simp [h]

/-- What the first tick of START_HIGH can do. -/
theorem State.startHighFirst_cases (s : State) :
    (s.holdc = 0#20 ∧ s.startHighFirst = (s.driveHigh.pinDir false).enterAckLow) ∨
      (s.holdc ≠ 0#20 ∧ s.startHighFirst = s.driveHigh.holdTick) :=
  s.driveHigh.startHighTick_cases

/-- What a tick of START_LOW's hold can do. -/
theorem State.startLowTick_cases (s : State) :
    (s.holdc.toNat ≤ 1 ∧ s.startLowTick = s.enterStartHigh) ∨
      (1 < s.holdc.toNat ∧ s.startLowTick = s.holdTick) := by
  unfold State.startLowTick
  by_cases h : s.holdc.toNat ≤ 1
  · exact .inl ⟨h, if_pos h⟩
  · exact .inr ⟨by omega, if_neg h⟩

/-- What the first tick of START_LOW can do. -/
theorem State.startLowFirst_cases (s : State) (c : Slot) :
    (s.params.tStartLow = 0#20 ∧ s.startLowFirst c = (s.driveLow c).enterStartHigh.startHighFirst) ∨
      (s.params.tStartLow ≠ 0#20 ∧ s.startLowFirst c = (s.driveLow c).startLowTick) := by
  unfold State.startLowFirst
  by_cases h : s.params.tStartLow = 0#20 <;> simp [h]

theorem execPhaseStartHigh_cases (s : State) :
    (s.holdc = s.params.tStartHigh ∧ execPhaseStartHigh s = .next s.startHighFirst) ∨
      (s.holdc ≠ s.params.tStartHigh ∧ execPhaseStartHigh s = .next s.startHighTick) := by
  unfold execPhaseStartHigh
  by_cases h : s.holdc = s.params.tStartHigh <;> simp [h]

/-- What RESPOND can do: spend a tick of OVH, or deliver. -/
theorem execPhaseRespond_cases (s : State) :
    (s.ovhLeft = 0 ∧ execPhaseRespond s = .next s.deliver) ∨
      (s.ovhLeft ≠ 0 ∧ execPhaseRespond s = .next s.ovhTick) := by
  unfold execPhaseRespond
  by_cases h : s.ovhLeft = 0 <;> simp [h]

theorem execPhaseCheck_next {s t : State} (h : execPhaseCheck s = .next t) :
    (s.frame.checksumOk = true ∧ ∃ c, s.slots[s.h.toNat]? = some c ∧
        t = ((s.putSlot s.h.toNat (c.stored s.frame.build)).discardFrame.respond ⟨.ok, none, some s.frame.build⟩)) ∨
      (s.frame.checksumOk = false ∧ t = s.acquireFail) := by
  unfold execPhaseCheck State.slot? at h
  split at h
  · rename_i hk
    split at h
    · cases h
    · rename_i c hc
      exact .inl ⟨hk, c, hc, (Host.Outcome.next.inj h).symm⟩
  · rename_i hk
    exact .inr ⟨by simpa using hk, (Host.Outcome.next.inj h).symm⟩

end Sys2Proof.Machine
end

