-- ==== Sys2Proof/Laws/PerInstr.lean ====
section
/-!
SUPPORT. The family EncodedRow: the encoding of an instruction lies in its row of the opcode table (spec/30_encoding.md R63,
R71; the masks and matches of spec/opcode_table.json).
-/

namespace Sys2Proof.Laws.EncodedRow

/-- The encoded word has its row's match under its row's mask. -/
def Statement (i : Instr) : Prop :=
  match i, encode i with
  | .create _ _ _, .command w => w &&& 0xCFFFFF00#32 = 0x00000000#32
  | .read _ _ _, .command w => w &&& 0xCFFFFF00#32 = 0x40000000#32
  | .destroy _ _, .command w => w &&& 0xDFFFFF00#32 = 0x80000000#32
  | .phaseIdle, .phase c => c = 0x0#4
  | .phaseSettle, .phase c => c = 0x1#4
  | .phaseStartLow, .phase c => c = 0x2#4
  | .phaseStartHigh, .phase c => c = 0x3#4
  | .phaseAckLow, .phase c => c = 0x4#4
  | .phaseAckHigh, .phase c => c = 0x5#4
  | .phaseBitLow, .phase c => c = 0x6#4
  | .phaseBitHigh, .phase c => c = 0x7#4
  | .phaseCheck, .phase c => c = 0x8#4
  | .phaseRespond, .phase c => c = 0x9#4
  | _, _ => False

/-- A mask that keeps no bit of a command word but OP and the zero field (and bit 28 where it is set). -/
theorem commandWord_and_mask (op : BitVec 2) (p b : Bool) (low : Byte) :
    commandWord op p b low &&& 0xCFFFFF00#32 = op ++ 0#30 := by
  apply BitVec.eq_of_getLsbD_eq
  intro i hi
  simp only [commandWord, BitVec.getLsbD_and, BitVec.getLsbD_append]
  interval_cases i <;> simp

theorem commandWord_and_mask28 (op : BitVec 2) (p : Bool) (low : Byte) :
    commandWord op p false low &&& 0xDFFFFF00#32 = op ++ 0#30 := by
  apply BitVec.eq_of_getLsbD_eq
  intro i hi
  simp only [commandWord, BitVec.getLsbD_and, BitVec.getLsbD_append]
  interval_cases i <;> simp

theorem create (cp : Bool) (var : Variant) (pin : Nat) : Statement (.create cp var pin) := by
  simp only [Statement, encode, commandWord_and_mask]
  decide

theorem read (hp dp : Bool) (h : Nat) : Statement (.read hp dp h) := by
  simp only [Statement, encode, commandWord_and_mask]
  decide

theorem destroy (hp : Bool) (h : Nat) : Statement (.destroy hp h) := by
  simp only [Statement, encode, commandWord_and_mask28]
  decide

theorem phaseIdle : Statement .phaseIdle := rfl
theorem phaseSettle : Statement .phaseSettle := rfl
theorem phaseStartLow : Statement .phaseStartLow := rfl
theorem phaseStartHigh : Statement .phaseStartHigh := rfl
theorem phaseAckLow : Statement .phaseAckLow := rfl
theorem phaseAckHigh : Statement .phaseAckHigh := rfl
theorem phaseBitLow : Statement .phaseBitLow := rfl
theorem phaseBitHigh : Statement .phaseBitHigh := rfl
theorem phaseCheck : Statement .phaseCheck := rfl
theorem phaseRespond : Statement .phaseRespond := rfl

end Sys2Proof.Laws.EncodedRow
end

