-- ==== Sys2Proof/Tests/Slice0.lean ====
section
/-!
SUPPORT. Small tests, each on one step or one value, with expected results from spec/ (the vector or rule is named), and for
every obligation with hypotheses a concrete state and operands that meet them.
-/

namespace Sys2Proof.Tests

open Sys2Proof.Machine

/-! ## States for the tests -/

/-- A live Type11 slot on pin 4. -/
def liveSlot : Slot :=
  { alloc := true, cfgPin := 4#8, cfgVar := .type11, tsv := false, lastTs := 0#64, rvalid := false, lastReading := 0#32 }

/-- The slot of V64: an attempt at 5000000 that succeeded. -/
def readSlotV64 : Slot := { liveSlot with tsv := true, lastTs := 5000000#64, rvalid := true, lastReading := 0x32001805#32 }

/-- IDLE with these slots, the word offered, the clock at `now`. -/
def offering (slots : List Slot) (w : Word) (now : Time) : State :=
  { State.reset with slots := slots, inp := ⟨false, true, w, false, now⟩ }

/-- A phase with these slots, the line at `v`, the clock at `now`. -/
def at' (p : Phase) (slots : List Slot) (v : Level) (now : Time) : State :=
  { State.reset with phase := p, slots := slots, inp := ⟨false, false, 0#32, v, now⟩ }

/-- A WAIT in phase `p` at count `c`, the line at `v`, working on a live slot inside ACQUIRE. -/
def waitingAt (p : Phase) (c : Count) (v : Level) : State :=
  { at' p [{ liveSlot with tsv := true }] v 0#64 with exp := p.expected, bud := p.budget .default, cnt := c }

def feed (v : Level) : Inputs := ⟨false, false, 0#32, v, 0#64⟩

/-- The state with these levels on the line in the coming ticks. -/
def onLine (s : State) : List Level → State
  | [] => s
  | v :: l => { s with inp := feed v, inputs := l.map feed }

theorem offers_onLine (s : State) (l : List Level) : (onLine s l).offers l := by
  cases l with
  | nil => simp [State.offers, State.nextInputs]
  | cons v l =>
    have h : (onLine s (v :: l)).nextInputs (v :: l).length = (v :: l).map feed := by
      simp [onLine, State.nextInputs, List.take_of_length_le]
    constructor
    · rw [h]
      simp [feed, Function.comp_def]
    · rw [h]
      intro i hi
      obtain ⟨w, -, rfl⟩ := List.mem_map.mp hi
      rfl

def after (f : State → α) (r : Result) : Option α := (nextState? r).map f

/-! ## WellFormed refuses each ill-formed instruction (R61, R62, R72) -/

theorem test_wellFormed_refuses_pin_256 : WellFormed (.create true .type11 256) = false := by decide
theorem test_wellFormed_refuses_read_handle_256 : WellFormed (.read true true 256) = false := by decide
theorem test_wellFormed_refuses_destroy_handle_256 : WellFormed (.destroy true 256) = false := by decide
theorem test_wellFormed_accepts_255 :
    WellFormed (.create true .type22 255) = true ∧ WellFormed (.read false true 255) = true ∧
      WellFormed (.destroy false 255) = true := by decide

/-! ## Decoding words written out bit by bit -/

/-- Format C (R61): OP 00, CP, VAR, twenty zeros, PIN. -/
theorem test_decode_create_bits :
    decode (.command 0b00_1_0_00000000000000000000_00000100#32) = .ok (.create true .type11 4) ∧
      decode (.command 0b00_1_1_00000000000000000000_00000100#32) = .ok (.create true .type22 4) ∧
      decode (.command 0b00_0_1_00000000000000000000_00000111#32) = .ok (.create false .type22 7) ∧
      decode (.command 0b00_1_0_00000000000000000000_11111111#32) = .ok (.create true .type11 255) := by decide

/-- Format H, OP 01 (R62): HP, DP, twenty zeros, H. -/
theorem test_decode_read_bits :
    decode (.command 0b01_1_1_00000000000000000000_00000011#32) = .ok (.read true true 3) ∧
      decode (.command 0b01_0_1_00000000000000000000_00000000#32) = .ok (.read false true 0) ∧
      decode (.command 0b01_1_0_00000000000000000000_00000010#32) = .ok (.read true false 2) ∧
      decode (.command 0b01_0_0_00000000000000000000_00000000#32) = .ok (.read false false 0) := by decide

/-- Format H, OP 10 (R62): HP, a zero, twenty zeros, H. -/
theorem test_decode_destroy_bits :
    decode (.command 0b10_1_0_00000000000000000000_00000000#32) = .ok (.destroy true 0) ∧
      decode (.command 0b10_0_0_00000000000000000000_00000000#32) = .ok (.destroy false 0) ∧
      decode (.command 0b10_1_0_00000000000000000000_10000001#32) = .ok (.destroy true 129) := by decide

/-- The ten phase codes and the first unused one (R71). -/
theorem test_decode_phase_codes :
    decode (.phase 0b0000#4) = .ok .phaseIdle ∧ decode (.phase 0b0001#4) = .ok .phaseSettle ∧
      decode (.phase 0b0010#4) = .ok .phaseStartLow ∧ decode (.phase 0b0011#4) = .ok .phaseStartHigh ∧
      decode (.phase 0b0100#4) = .ok .phaseAckLow ∧ decode (.phase 0b0101#4) = .ok .phaseAckHigh ∧
      decode (.phase 0b0110#4) = .ok .phaseBitLow ∧ decode (.phase 0b0111#4) = .ok .phaseBitHigh ∧
      decode (.phase 0b1000#4) = .ok .phaseCheck ∧ decode (.phase 0b1001#4) = .ok .phaseRespond ∧
      decode (.phase 0b1010#4) = .error .unusedPhase ∧ decode (.phase 0b1111#4) = .error .unusedPhase := by decide

/-- The reserved words of V12. -/
theorem test_decode_reserved_words :
    (decode (.command 0xC0000000#32) = .error .reservedOp ∧ decode (.command 0xE0000000#32) = .error .reservedOp ∧
      decode (.command 0xFFFFFFFF#32) = .error .reservedOp) ∧
    (decode (.command 0x20000104#32) = .error .reservedField ∧ decode (.command 0x28000004#32) = .error .reservedField ∧
      decode (.command 0x78000000#32) = .error .reservedField ∧ decode (.command 0x90000000#32) = .error .reservedField ∧
      decode (.command 0xB0000000#32) = .error .reservedField) := by decide

/-- The words of V1 to V11 from the encoder. -/
theorem test_encode_vectors :
    encode (.create true .type11 4) = .command 0x20000004#32 ∧ encode (.create true .type22 4) = .command 0x30000004#32 ∧
      encode (.read false true 0) = .command 0x50000000#32 ∧ encode (.read true false 2) = .command 0x60000002#32 ∧
      encode (.read true true 0) = .command 0x70000000#32 ∧ encode (.destroy true 0) = .command 0xA0000000#32 ∧
      encode (.destroy false 0) = .command 0x80000000#32 := by decide

theorem test_decodeTableWord :
    decodeTableWord 32 0x20000004 = some (.create true .type11 4) ∧ decodeTableWord 8 4 = some .phaseAckLow ∧
      decodeTableWord 8 10 = none ∧ decodeTableWord 32 0xC0000000 = none := by decide

theorem test_withFetchWord_is_fetched :
    (State.reset.withFetchWord 32 0x70000003).inp.cmdWord = 0x70000003#32 ∧
      (State.reset.withFetchWord 32 0x70000003).phase = .idle ∧
      (State.reset.withFetchWord 8 7).phase.instr = .phaseBitHigh := by decide

/-! ## Commands -/

/-- V50, V54: the lowest free slot, configured. -/
theorem test_create_allocates :
    after (fun t => (t.slots, t.rspArgs, t.trace))
        (exec (.create true .type11 4)
          { State.reset with slots := [{ readSlotV64 with alloc := false, cfgPin := 7#8, cfgVar := .type22 }] }) =
      some ([{ readSlotV64 with tsv := false, rvalid := false }], ⟨.ok, some 0#8, none⟩, []) ∧
    after (fun t => t.rspArgs)
        (exec (.create true .type11 9) { State.reset with slots := [Slot.reset, liveSlot] }) =
      some ⟨.ok, some 0#8, none⟩ ∧
    after (fun t => t.rspArgs)
        (exec (.create true .type11 9) { State.reset with slots := [liveSlot, Slot.reset] }) =
      some ⟨.ok, some 1#8, none⟩ := by decide

/-- V51 (NO_MEM), V3 and V4 (INVALID_ARG with every slot live: R147), V5 (refused). -/
theorem test_create_checks_in_order :
    after (fun t => (t.rspArgs.status, t.slots)) (exec (.create true .type11 5) { State.reset with slots := [liveSlot] }) =
      some (.noMem, [liveSlot]) ∧
    after (fun t => (t.rspArgs.status, t.slots)) (exec (.create false .type22 7) { State.reset with slots := [liveSlot] }) =
      some (.invalidArg, [liveSlot]) ∧
    after (fun t => t.phase) (exec (.create true .type22 4) { State.reset with slots := [liveSlot] }) = none := by decide

/-- V52, V55: the slot is freed, nothing else of it changes; V10, V11, and H >= NHANDLES: faults. -/
theorem test_destroy_frees :
    after (fun t => (t.slots, t.rspArgs)) (exec (.destroy true 0) { State.reset with slots := [readSlotV64, liveSlot] }) =
      some ([{ readSlotV64 with alloc := false }, liveSlot], ⟨.ok, none, none⟩) := by decide

theorem test_destroy_faults :
    exec (.destroy true 0) State.reset = .fault .destroyDeadHandle ∧
      exec (.destroy true 1) { State.reset with slots := [liveSlot] } = .fault .destroyDeadHandle ∧
      exec (.destroy false 0) { State.reset with slots := [liveSlot] } = .fault .destroyAbsentHandle := ⟨rfl, rfl, rfl⟩

/-- V60, V61, V62: the settle hold is the remainder, and none at 1000000. -/
theorem test_read_settle_boundaries :
    after (fun t => (t.phase, t.holdc, t.trace)) (step (offering [liveSlot] 0x70000000#32 0#64)) =
      some (.settle, 1000000#20, [.hold 1000000, .now 0#64, .cmd 0x70000000#32]) ∧
    after (fun t => (t.phase, t.holdc)) (step (offering [liveSlot] 0x70000000#32 999999#64)) = some (.settle, 1#20) ∧
    after (fun t => (t.phase, t.slots)) (step (offering [liveSlot] 0x70000000#32 1000000#64)) =
      some (.startLow, [{ liveSlot with tsv := true, lastTs := 1000000#64 }]) := by decide

/-- V64, V65, V67, V69: the throttle test at its boundaries. -/
theorem test_read_throttle_boundaries :
    after (fun t => (t.rspArgs, t.slots)) (step (offering [readSlotV64] 0x70000000#32 6999999#64)) =
      some (⟨.ok, none, some 0x32001805#32⟩, [readSlotV64]) ∧
    after (fun t => t.phase) (step (offering [readSlotV64] 0x70000000#32 7000000#64)) = some .startLow ∧
    after (fun t => t.rspArgs.status)
        (step (offering [{ readSlotV64 with lastTs := 3000000#64, rvalid := false }] 0x70000000#32 3100000#64)) =
      some .fail ∧
    after (fun t => t.phase)
        (step (offering [{ readSlotV64 with lastTs := 18446744073709550616#64 }] 0x70000000#32 1000000#64)) =
      some .respond := by decide

/-! ## The phases -/

/-- V12: a reserved word is accepted and answered with INVALID_ARG; an IDLE tick without an offer changes nothing (R130). -/
theorem test_idle :
    after (fun t => (t.cmd, t.rspArgs, t.phase, t.trace)) (step (offering [liveSlot] 0xC0000000#32 0#64)) =
      some (0xC0000000#32, ⟨.invalidArg, none, none⟩, .respond, [.cmd 0xC0000000#32]) ∧
    after (fun t => t) (exec .phaseIdle State.reset) = some State.reset := by decide

/-- V68: after the settle hold the second `Now()` decides; elapsed 11 is throttled. -/
theorem test_settle_then_throttle :
    after (fun t => (t.t, t.rspArgs, t.trace))
        (exec .phaseSettle (at' .settle [{ readSlotV64 with lastTs := 999990#64 }] false 1000001#64)) =
      some (1000001#64, ⟨.ok, none, some 0x32001805#32⟩, [.now 1000001#64]) := by decide

/-- R101's worked example: ticks 0, 19999 and 20000, 20040 of the start signal at the ports. -/
theorem test_start_low_ports :
    (nextState? (step { at' .startLow [liveSlot] true 0#64 with holdc := 20000#20 })).map
        (fun t => let o := outputsOf (at' .startLow [liveSlot] true 0#64) t; (o.pinSel, o.pinOe, o.pinOut, o.cmdReady)) =
      some (4#8, true, false, false) ∧
    after (fun t => (t.phase, t.pinOut))
        (step { at' .startLow [liveSlot] true 0#64 with holdc := 1#20, pinOe := true, pinOut := false }) =
      some (.startHigh, false) := by decide

theorem test_start_high_ports :
    after (fun t => (t.pinOe, t.pinOut, t.holdc))
        (step { at' .startHigh [liveSlot] true 0#64 with holdc := 40#20, pinOe := true, pinOut := false }) =
      some (true, true, 39#20) ∧
    after (fun t => (t.pinOe, t.phase, t.exp, t.bud, t.cnt))
        (step { at' .startHigh [liveSlot] true 0#64 with holdc := 0#20, pinOe := true }) =
      some (false, .ackLow, false, 80#7, 0#7) := by decide

/-- V19 (Ok(0) at the first sample), V19a (Ok(80)) and V19b (Timeout) at their last sample. -/
theorem test_ack_low_samples :
    after (fun t => t.phase) (step (waitingAt .ackLow 0#7 true)) = some .ackHigh ∧
      after (fun t => t.phase) (step (waitingAt .ackLow 80#7 true)) = some .ackHigh ∧
      after (fun t => (t.phase, t.rspArgs.status)) (step (waitingAt .ackLow 80#7 false)) = some (.respond, .fail) ∧
      after (fun t => (t.phase, t.cnt)) (step (waitingAt .ackLow 79#7 false)) = some (.ackLow, 80#7) := by decide

/-- R103, R111: the end of ACK_HIGH sets BITI to 0; V26: its Timeout at count 80. -/
theorem test_ack_high_samples :
    after (fun t => (t.phase, t.biti, t.bud)) (step { waitingAt .ackHigh 78#7 false with biti := 40#6 }) =
      some (.bitLow, 0#6, 50#7) ∧
    after (fun t => (t.phase, t.rspArgs.status)) (step (waitingAt .ackHigh 80#7 true)) = some (.respond, .fail) := by decide

/-- R100: with N_BITS = 0 the bit loop has no turn. -/
theorem test_no_bits :
    after (fun t => t.phase) (step { waitingAt .ackHigh 3#7 false with params := { Params.default with nBits := 0#6 } }) =
      some .check := by decide

/-- V19c and V19d at their last sample. -/
theorem test_bit_low_samples :
    after (fun t => (t.phase, t.exp, t.bud)) (step (waitingAt .bitLow 50#7 true)) = some (.bitHigh, true, 70#7) ∧
      after (fun t => (t.phase, t.rspArgs.status)) (step (waitingAt .bitLow 50#7 false)) = some (.respond, .fail) := by decide

/-- V14 to V17 at their last sample, at frame position 0 (bit 7 of FRAME0). -/
theorem test_bit_high_counts :
    after (fun t => t.frame.frame0) (step { waitingAt .bitHigh 27#7 false with frame := ⟨0xFF#8, 0#8, 0#8, 0#8, 0#8⟩ }) =
      some 0x7F#8 ∧
    after (fun t => t.frame.frame0) (step (waitingAt .bitHigh 28#7 false)) = some 0x80#8 ∧
    after (fun t => t.frame.frame0) (step (waitingAt .bitHigh 70#7 false)) = some 0x80#8 ∧
    after (fun t => (t.phase, t.rspArgs.status)) (step (waitingAt .bitHigh 70#7 true)) = some (.respond, .fail) := by decide

/-- R111: BITI 38 goes on, 39 ends in CHECK with BITI 40; position 39 is bit 0 of FRAME4 (V41). -/
theorem test_bit_high_last_bit :
    after (fun t => (t.phase, t.biti)) (step { waitingAt .bitHigh 28#7 false with biti := 38#6 }) = some (.bitLow, 39#6) ∧
      after (fun t => (t.phase, t.biti, t.frame.frame4)) (step { waitingAt .bitHigh 28#7 false with biti := 39#6 }) =
        some (.check, 40#6, 0x01#8) := by decide

/-- CHECK with this frame, working on a live slot. -/
def checking (f : RawFrame) : State := { at' .check [{ liveSlot with tsv := true }] false 0#64 with frame := f, biti := 40#6 }

/-- V20 and V22: the Reading is stored and returned, or nothing changes. -/
theorem test_check_passes_and_fails :
    after (fun t => (t.rspArgs, t.slots)) (exec .phaseCheck (checking ⟨0x32#8, 0x00#8, 0x18#8, 0x05#8, 0x4F#8⟩)) =
      some (⟨.ok, none, some 0x32001805#32⟩, [{ liveSlot with tsv := true, rvalid := true, lastReading := 0x32001805#32 }]) ∧
    after (fun t => (t.rspArgs, t.slots)) (exec .phaseCheck (checking ⟨0x32#8, 0x00#8, 0x18#8, 0x05#8, 0x50#8⟩)) =
      some (⟨.fail, none, none⟩, [{ liveSlot with tsv := true }]) := by decide

/-- V44, V45, V46: the sum wraps. -/
theorem test_checksum_wraps :
    (RawFrame.mk 0x2D#8 0x00#8 0xF6#8 0x01#8 0x24#8).checksumOk = true ∧
      (RawFrame.mk 0xFF#8 0xFF#8 0xFF#8 0xFF#8 0xFC#8).checksumOk = true ∧
      (RawFrame.mk 0x80#8 0x80#8 0x00#8 0x00#8 0x00#8).checksumOk = true ∧
      (RawFrame.mk 0x32#8 0x20#8 0x18#8 0x05#8 0x4F#8).checksumOk = false := by decide

/-- R131: the registers, one tick of RSP_VALID, the event, IDLE. -/
theorem test_respond :
    after (fun t => (t.phase, t.rspValid, t.rspStatus, t.rspReading, t.trace))
        (step { at' .respond [] false 0#64 with rspArgs := ⟨.ok, none, some 0x2D00F601#32⟩ }) =
      some (.idle, true, 0#3, 0x2D00F601#32, [.rsp ⟨.ok, none, some 0x2D00F601#32⟩]) ∧
    after (fun t => t.rspValid) (step { at' .idle [] false 0#64 with rspValid := true }) = some false := by decide

/-- R6: while ticks of OVH are left RESPOND waits. -/
theorem test_respond_spends_ovh :
    after (fun t => (t.phase, t.rspValid, t.ovhLeft, t.trace))
        (step { at' .respond [] false 0#64 with rspArgs := ⟨.ok, none, none⟩, ovhLeft := 2 }) =
      some (.respond, false, 1, []) := by decide

/-- Other parameters than the defaults (R5). -/
def shortParams : Params :=
  { Params.default with tStartLow := 1#20, tStartHigh := 0#20, tOne := 30#7, nBits := 8#6, tSettle := 10#64 }

/-- R5, R6: a block with other parameters and three slots: the low hold of one tick, the high hold of none, the last bit of a frame
of eight. -/
theorem test_other_parameters :
    after (fun t => (t.phase, t.slots.length))
        (step { State.resetWith shortParams 3 with
          phase := .startLow, holdc := 1#20, slots := [liveSlot, Slot.reset, Slot.reset] }) = some (.startHigh, 3) ∧
    after (fun t => (t.phase, t.pinOe, t.pinOut)) (step { State.resetWith shortParams 1 with phase := .startHigh, pinOe := true }) =
      some (.ackLow, false, true) ∧
    after (fun t => (t.phase, t.biti, t.frame.frame0))
        (step { waitingAt .bitHigh 30#7 false with params := shortParams, biti := 7#6 }) = some (.check, 8#6, 0#8) := by decide

/-- No low hold, and a high hold of `n` ticks. -/
def noHolds (n : HoldCount) : Params := { Params.default with tStartLow := 0#20, tStartHigh := n }

/-- R45, R101: `Hold(0)` is nothing, so the line is never low: driven high from the tick of `PinDir(OUT)` on, or, with no high hold
either, an input after it. -/
theorem test_start_without_low_hold :
    after (fun t => (t.phase, t.pinOe, t.pinOut, t.holdc))
        (step { State.resetWith (noHolds 2#20) 1 with phase := .startLow, slots := [liveSlot] }) =
      some (.startHigh, true, true, 1#20) ∧
    after (fun t => (t.phase, t.pinOe, t.pinOut))
        (step { State.resetWith (noHolds 0#20) 1 with phase := .startLow, slots := [liveSlot] }) =
      some (.ackLow, false, true) := by decide

/-- R171: reset in the middle of a start signal. -/
theorem test_reset_during_start :
    after (fun t => (t.phase, t.pinOe, t.pinOut, t.slots.map Slot.alloc, t.trace))
        (step { at' .startLow [liveSlot] true 0#64 with inp := ⟨true, false, 0#32, true, 0#64⟩, pinOe := true, pinOut := false }) =
      some (.idle, false, true, [false], []) := by decide

/-! ## Values -/

/-- V40, V41, V42. -/
theorem test_packing :
    (RawFrame.storeBit ⟨0#8, 0#8, 0#8, 0#8, 0#8⟩ 0#6 true).frame0 = 0x80#8 ∧
      (RawFrame.storeBit ⟨0#8, 0#8, 0#8, 0#8, 0#8⟩ 7#6 true).frame0 = 0x01#8 ∧
      (RawFrame.storeBit ⟨0#8, 0#8, 0#8, 0#8, 0#8⟩ 8#6 true).frame1 = 0x80#8 ∧
      (RawFrame.storeBit ⟨0#8, 0#8, 0#8, 0#8, 0#8⟩ 23#6 true).frame2 = 0x01#8 ∧
      (RawFrame.storeBit ⟨0#8, 0#8, 0#8, 0xFF#8, 0#8⟩ 31#6 false).frame3 = 0xFE#8 ∧
      (RawFrame.storeBit ⟨0#8, 0#8, 0#8, 0#8, 0#8⟩ 32#6 true).frame4 = 0x80#8 := by decide

/-- V47, V48 and S7: signed integral bytes, unsigned fractional ones. -/
theorem test_typing :
    readingOf 0x2D00F601#32 = ⟨⟨-10, 1⟩, ⟨45, 0⟩⟩ ∧ readingOf 0x80FF7F0A#32 = ⟨⟨127, 10⟩, ⟨-128, 255⟩⟩ ∧
      readingOf 0xFFFFFFFF#32 = ⟨⟨-1, 255⟩, ⟨-1, 255⟩⟩ := by decide

/-- R72, R73: lines, either field order, comments, and lines that are none. -/
theorem test_command_text :
    parseCommand "CREATE var=T22 pin=4 # a comment".toList = some (.create true .type22 4) ∧
      parseCommand "READ h=2 dst=NULL".toList = some (.read true false 2) ∧
      parseCommand "DESTROY NULL".toList = some (.destroy false 0) ∧
      parseCommand "READ h=256".toList = none ∧ parseCommand "CREATE pin=4".toList = none := by decide

/-- R72: the written responses. -/
theorem test_response_text :
    responseText ⟨.ok, some 12#8, none⟩ = some "-> OK h=12".toList ∧
      (responseText ⟨.ok, none, some 0x2D00F601#32⟩).map (fun l => (l.drop 7).dropLast) =
        some "hum:(45,0) temp:(-10,1)".toList ∧
      responseText ⟨.noMem, none, none⟩ = some "-> NO_MEM".toList := by decide

/-! ## Witnesses: for every statement with hypotheses, a state and operands that meet them -/

theorem witness_DecodeOfEncodeIsInstruction :
    ∃ i j k : Instr, i = .create true .type22 255 ∧ j = .read true true 0 ∧ k = .destroy true 255 ∧
      WellFormed i = true ∧ WellFormed j = true ∧ WellFormed k = true := by
  exact ⟨_, _, _, rfl, rfl, rfl, by decide⟩

theorem witness_EncodeOfDecodeIsCode :
    decode (.command 0x700000FF#32) = .ok (.read true true 255) ∧ decode (.phase 9#4) = .ok .phaseRespond := by decide

theorem witness_ReservedWordsAreInvalidArg :
    ∃ s : State, s.inp.cmdValid = true ∧ s.inp.cmdWord = 0x90000000#32 ∧
      decodeCommand 0x90000000#32 = .error .reservedField :=
  ⟨offering [] 0x90000000#32 0#64, by decide⟩

theorem witness_StepRunsPhaseInstruction :
    ∃ (s : State) (i : Instr), s.inp.rst = false ∧ decode (.phase s.phase.code) = .ok i ∧ i = .phaseCheck :=
  ⟨at' .check [liveSlot] false 0#64, _, rfl, rfl, rfl⟩

theorem witness_StepRunsOfferedCommand :
    ∃ (s : State) (i : Instr), s.inp.cmdValid = true ∧ decode (.command s.inp.cmdWord) = .ok i ∧ s.inp.rst = false ∧
      s.phase = .idle :=
  ⟨offering [liveSlot] 0x700000FF#32 0#64, .read true true 255, by decide⟩

theorem witness_IdleWithoutCommandChangesNothing : State.reset.inp.cmdValid = false := by decide

theorem witness_BlockResetAbandonsCommand : ∃ s : State, s.inp.rst = true ∧ s.phase = .startLow ∧ s.slots ≠ [] :=
  ⟨{ at' .startLow [liveSlot] true 0#64 with inp := ⟨true, false, 0#32, true, 0#64⟩ }, by decide⟩

theorem witness_BusyStepIgnoresCommandPort : ∃ s : State, s.phase ≠ .idle := ⟨waitingAt .bitHigh 3#7 true, by decide⟩

/-- States of the invariant in IDLE and in the start signal. -/
def idleWith (p : Params) : State := State.resetWith p 1

def startingLow (p : Params) : State :=
  { at' .startLow [{ liveSlot with tsv := true }] true 0#64 with params := p, holdc := p.tStartLow }

def startingHigh (n : HoldCount) : State :=
  { at' .startHigh [{ liveSlot with tsv := true }] true 0#64 with pinOe := true, holdc := n }

theorem sound_of_mem_live {c : Slot} (h : c ∈ [{ liveSlot with tsv := true }]) : c.Sound := by
  obtain rfl : c = { liveSlot with tsv := true } := by simpa using h
  exact ⟨by decide, by decide⟩

theorem inv_idleWith (p : Params) (hp : p.fits = true) : (idleWith p).Inv := by
  refine ⟨hp, ⟨Nat.le_refl 1, show 1 ≤ 256 by omega⟩, ?_, nofun, nofun, nofun, nofun, nofun, nofun, nofun, nofun, ?_, nofun,
    nofun, nofun⟩
  · intro c hc
    obtain rfl : c = Slot.reset := by simpa [idleWith, State.resetWith] using hc
    exact ⟨by decide, by decide⟩
  · rintro (h | h) <;> cases h

theorem inv_startingLow (p : Params) (hp : p.fits = true) : (startingLow p).Inv := by
  refine ⟨hp, ⟨Nat.le_refl 1, show 1 ≤ 256 by omega⟩, fun c => sound_of_mem_live,
    fun _ => ⟨{ liveSlot with tsv := true }, rfl, rfl, fun _ => rfl⟩, nofun, nofun, fun _ h => absurd rfl h, nofun, ?_,
    fun _ h => absurd rfl h, nofun, ?_, nofun, nofun, nofun⟩
  · intro n hn
    cases hn
    exact Nat.le_refl _
  · rintro (h | h) <;> cases h

theorem inv_startingHigh (n : HoldCount) (hn : n.toNat ≤ 40) : (startingHigh n).Inv := by
  refine ⟨rfl, ⟨Nat.le_refl 1, show 1 ≤ 256 by omega⟩, fun c => sound_of_mem_live,
    fun _ => ⟨{ liveSlot with tsv := true }, rfl, rfl, fun _ => rfl⟩, fun _ => rfl, nofun, nofun, fun _ => ⟨rfl, fun _ => rfl⟩,
    ?_, nofun, nofun, ?_, nofun, nofun, nofun⟩
  · intro m hm
    cases hm
    exact hn
  · rintro (h | h) <;> cases h

theorem witness_StepReadsOraclesOnlyWhereRulesSay :
    (∃ s : State, s.phase.waiting = false ∧ s.phase = .settle ∧ s.holdc ≠ 0#20) ∧
    (∃ s : State, s.inp.rst = true ∧ s.phase = .settle ∧ s.holdc = 0#20) ∧
    (∃ s : State, s.phase = .idle ∧ s.inp.cmdValid = false) ∧
    (∃ s : State, s.phase = .idle ∧ s.inp.cmdValid = true ∧
      ∀ h, decodeCommand s.inp.cmdWord = .ok (.read true true h) → s.live (BitVec.ofNat 8 h) = false) ∧
      ∃ s : State, s.phase = .idle ∧ s.inp.cmdValid = true ∧ decodeCommand s.inp.cmdWord = .ok (.read true true 1) ∧
        s.live (BitVec.ofNat 8 1) = false := by
  refine ⟨⟨{ at' .settle [liveSlot] true 0#64 with holdc := 1#20 }, by decide⟩,
    ⟨{ at' .settle [] true 0#64 with inp := { Inputs.reset with rst := true } }, by decide⟩, ⟨State.reset, by decide⟩,
    ⟨offering [] 0x20000004#32 0#64, rfl, rfl, fun h e => ?_⟩, ⟨offering [liveSlot] 0x70000001#32 0#64, by decide⟩⟩
  have d : decodeCommand (offering [] 0x20000004#32 0#64).inp.cmdWord = .ok (.create true .type11 4) := by decide
  rw [d] at e
  cases e

theorem witness_ResponseRegistersChangeOnlyInRespond :
    (∃ s t : State, s.inp.rst = false ∧ step s = .next t ∧ s.phase = .respond ∧ s.ovhLeft = 0) ∧
    (∃ s t : State, s.inp.rst = false ∧ step s = .next t ∧ s.phase = .respond ∧ s.ovhLeft ≠ 0) ∧
      ∃ s t : State, s.inp.rst = false ∧ step s = .next t ∧ s.phase ≠ .respond :=
  ⟨⟨at' .respond [] false 0#64, _, rfl, rfl, rfl, rfl⟩,
    ⟨{ at' .respond [] false 0#64 with ovhLeft := 1 }, _, rfl, rfl, rfl, by decide⟩,
    ⟨waitingAt .ackLow 0#7 false, _, rfl, rfl, by decide⟩⟩

theorem witness_RespondDeliversAndReturnsToIdle :
    (∃ s : State, s.ovhLeft = 0 ∧ s.rspArgs.handle = some 255#8) ∧ ∃ s : State, s.ovhLeft ≠ 0 :=
  ⟨⟨{ State.reset with rspArgs := ⟨.ok, some 255#8, none⟩ }, rfl, rfl⟩, ⟨{ State.reset with ovhLeft := 1 }, by decide⟩⟩

/-- For each clause a step: under reset, delivering, in IDLE, in START_LOW's first tick, with no low hold, and in START_HIGH. -/
theorem witness_OutputPortsFollowThePhase :
    (∃ s t : State, step s = .next t ∧ s.inp.rst = true ∧ s.phase = .startLow) ∧
    (∃ s t : State, step s = .next t ∧ s.inp.rst = false ∧ s.phase = .respond ∧ s.ovhLeft = 0 ∧
      s.rspArgs = ⟨.noMem, none, none⟩) ∧
    (∃ s t : State, step s = .next t ∧ s.Inv ∧ s.inp.rst = false ∧ s.phase = .idle) ∧
    (∃ s t : State, step s = .next t ∧ s.Inv ∧ s.inp.rst = false ∧ s.phase = .startLow ∧ s.holdc = s.params.tStartLow ∧
      s.params.tStartLow ≠ 0#20 ∧ s.slots[s.h.toNat]? = some { liveSlot with tsv := true }) ∧
    (∃ s t : State, step s = .next t ∧ s.Inv ∧ s.inp.rst = false ∧ s.phase = .startLow ∧ s.params.tStartLow = 0#20) ∧
    (∃ s t : State, step s = .next t ∧ s.Inv ∧ s.inp.rst = false ∧ s.phase = .startHigh ∧ s.holdc ≠ 0#20) ∧
      ∃ s t : State, step s = .next t ∧ s.Inv ∧ s.inp.rst = false ∧ s.phase = .startHigh ∧ s.holdc = 0#20 :=
  ⟨⟨{ at' .startLow [liveSlot] true 0#64 with inp := ⟨true, false, 0#32, true, 0#64⟩ }, _, rfl, rfl, rfl⟩,
    ⟨{ at' .respond [] false 0#64 with rspArgs := ⟨.noMem, none, none⟩ }, _, rfl, rfl, rfl, rfl, rfl⟩,
    ⟨idleWith .default, _, rfl, inv_idleWith _ rfl, rfl, rfl⟩,
    ⟨startingLow .default, _, rfl, inv_startingLow _ rfl, rfl, rfl, rfl, by decide, rfl⟩,
    ⟨startingLow (noHolds 2#20), _, rfl, inv_startingLow _ rfl, rfl, rfl, rfl⟩,
    ⟨startingHigh 7#20, _, rfl, inv_startingHigh _ (by decide), rfl, rfl, by decide⟩,
    ⟨startingHigh 0#20, _, rfl, inv_startingHigh _ (by decide), rfl, rfl, rfl⟩⟩

theorem witness_CreateAllocatesLowestFreeSlot :
    (∃ s : State, s.slots ≠ [] ∧ ∀ c ∈ s.slots, c.alloc = true) ∧
      ∃ (s : State) (k : Nat) (c : Slot), k = 1 ∧ s.slots[k]? = some c ∧ c.alloc = false ∧
        ∀ j < k, ∃ d, s.slots[j]? = some d ∧ d.alloc = true := by
  refine ⟨⟨at' .idle [liveSlot] false 0#64, by decide⟩,
    ⟨at' .idle [liveSlot, Slot.reset] false 0#64, 1, Slot.reset, rfl, rfl, rfl, ?_⟩⟩
  intro j hj
  obtain rfl : j = 0 := by omega
  exact ⟨liveSlot, rfl, rfl⟩

theorem witness_DestroyFreesItsSlotOnly :
    (∃ (s : State) (c : Slot), s.slots[(BitVec.ofNat 8 255).toNat]? = some c ∧ c.alloc = true) ∧
    (∃ s : State, s.live (BitVec.ofNat 8 255) = false) ∧
      ∃ (s t : State) (h : Byte), s.slots.length ≤ 256 ∧ exec (.create true .type11 4) s = .next t ∧
        t.rspArgs = ⟨.ok, some h, none⟩ :=
  ⟨⟨at' .idle (List.replicate 256 liveSlot) false 0#64, liveSlot, by decide⟩, ⟨State.reset, by decide⟩,
    ⟨State.reset, _, 0#8, by decide, rfl, rfl⟩⟩

theorem witness_InvalidArgBeforeAnyEffect :
    (∃ (s : State) (e : DecodeError), s.inp.cmdValid = true ∧ decodeCommand s.inp.cmdWord = .error e) ∧
      ∃ s t : State, exec (.destroy true 0) s = .next t :=
  ⟨⟨offering [] 0xFFFFFFFF#32 0#64, .reservedOp, by decide⟩, ⟨at' .idle [liveSlot] false 0#64, _, rfl⟩⟩

theorem witness_ReadHoldsUntilSettled :
    (∃ s : State, s.live (BitVec.ofNat 8 0) = true ∧ s.params.tSettle.toNat ≤ s.inp.now.toNat) ∧
    (∃ s : State, s.live (BitVec.ofNat 8 0) = true ∧ s.params.fits = true ∧ s.inp.now.toNat < s.params.tSettle.toNat) ∧
    (∃ s : State, s.holdc ≠ 0#20) ∧
      ∃ s : State, s.holdc = 0#20 ∧ s.live s.h = true :=
  ⟨⟨at' .idle [liveSlot] false 1000000#64, by decide⟩, ⟨at' .idle [liveSlot] false 999999#64, by decide⟩,
    ⟨{ State.reset with holdc := 1#20 }, by decide⟩, ⟨at' .settle [liveSlot] false 0#64, by decide⟩⟩

theorem witness_ReadThrottleTestDecides :
    (∃ (s : State) (c : Slot), s.slots[(BitVec.ofNat 8 0).toNat]? = some c ∧ c.alloc = true ∧
      s.params.tSettle.toNat ≤ s.inp.now.toNat ∧
      c.tsv = true ∧ elapsedSince s.inp.now c.lastTs < s.params.tThrottle.toNat) ∧
    (∃ (s : State) (c : Slot), s.slots[(BitVec.ofNat 8 0).toNat]? = some c ∧ c.alloc = true ∧
      s.params.tSettle.toNat ≤ s.inp.now.toNat ∧
      (c.tsv = false ∨ s.params.tThrottle.toNat ≤ elapsedSince s.inp.now c.lastTs)) ∧
    (∃ (s : State) (c : Slot), s.slots[s.h.toNat]? = some c ∧ s.holdc = 0#20 ∧ c.tsv = true ∧
      elapsedSince s.inp.now c.lastTs < s.params.tThrottle.toNat) ∧
    ∃ (s : State) (c : Slot), s.slots[s.h.toNat]? = some c ∧ s.holdc = 0#20 ∧ c.tsv = false :=
  ⟨⟨at' .idle [readSlotV64] false 6999999#64, readSlotV64, by decide⟩,
    ⟨at' .idle [readSlotV64] false 7000000#64, readSlotV64, by decide⟩,
    ⟨at' .settle [readSlotV64] false 6999999#64, readSlotV64, by decide⟩,
    ⟨at' .settle [liveSlot] false 1000000#64, liveSlot, by decide⟩⟩

theorem witness_ThrottledReadTouchesNoPin :
    ∃ (s : State) (c : Slot), s.slots[(BitVec.ofNat 8 0).toNat]? = some c ∧ c.alloc = true ∧ c.tsv = true ∧
      s.params.tSettle.toNat ≤ s.inp.now.toNat ∧ c.lastTs.toNat ≤ s.inp.now.toNat ∧
      s.inp.now.toNat - c.lastTs.toNat < s.params.tThrottle.toNat :=
  ⟨at' .idle [readSlotV64] false 6999999#64, readSlotV64, by decide⟩

theorem witness_StartLowDrivesAndHolds :
    (∃ (s : State) (c : Slot), s.slots[s.h.toNat]? = some c ∧ s.holdc = s.params.tStartLow ∧ 1 < s.holdc.toNat ∧
      c.cfgVar = .type11) ∧
    (∃ (s : State) (c : Slot), s.slots[s.h.toNat]? = some c ∧ s.holdc = s.params.tStartLow ∧ s.holdc = 0#20 ∧
      c.cfgVar = .type11 ∧ s.params.tStartHigh ≠ 0#20) ∧
    (∃ (s : State) (c : Slot), s.slots[s.h.toNat]? = some c ∧ s.holdc = s.params.tStartLow ∧ s.holdc = 0#20 ∧
      c.cfgVar = .type11 ∧ s.params.tStartHigh = 0#20) ∧
    (∃ (s : State) (c : Slot), s.slots[s.h.toNat]? = some c ∧ s.holdc = s.params.tStartLow ∧ s.holdc = 1#20 ∧
      c.cfgVar = .type11) ∧
    (∃ (s : State) (c : Slot), s.slots[s.h.toNat]? = some c ∧ s.holdc ≠ s.params.tStartLow ∧ 1 < s.holdc.toNat) ∧
      ∃ (s : State) (c : Slot), s.slots[s.h.toNat]? = some c ∧ s.holdc ≠ s.params.tStartLow ∧ s.holdc.toNat ≤ 1 :=
  ⟨⟨{ at' .startLow [liveSlot] false 0#64 with holdc := 20000#20 }, liveSlot, by decide⟩,
    ⟨{ at' .startLow [liveSlot] false 0#64 with params := noHolds 40#20 }, liveSlot, by decide⟩,
    ⟨{ at' .startLow [liveSlot] false 0#64 with params := noHolds 0#20 }, liveSlot, by decide⟩,
    ⟨{ at' .startLow [liveSlot] false 0#64 with holdc := 1#20, params := shortParams }, liveSlot, by decide⟩,
    ⟨{ at' .startLow [liveSlot] false 0#64 with holdc := 2#20 }, liveSlot, by decide⟩,
    ⟨{ at' .startLow [liveSlot] false 0#64 with holdc := 1#20 }, liveSlot, by decide⟩⟩

theorem witness_StartHighDrivesAndReleases :
    (∃ s : State, s.holdc = s.params.tStartHigh ∧ s.holdc ≠ 0#20) ∧
    (∃ s : State, s.holdc = s.params.tStartHigh ∧ s.holdc = 0#20) ∧
    (∃ s : State, s.holdc ≠ s.params.tStartHigh ∧ s.holdc ≠ 0#20) ∧
      ∃ s : State, s.holdc ≠ s.params.tStartHigh ∧ s.holdc = 0#20 :=
  ⟨⟨{ State.reset with holdc := 40#20 }, by decide⟩, ⟨State.resetWith shortParams 1, by decide⟩,
    ⟨{ State.reset with holdc := 39#20 }, by decide⟩, ⟨State.reset, by decide⟩⟩

theorem witness_StartTypeTwentyTwoIsRefused :
    ∃ (s : State) (c : Slot), s.slots[s.h.toNat]? = some c ∧ c.cfgVar = .type22 ∧ s.holdc = s.params.tStartLow :=
  ⟨{ at' .startLow [{ liveSlot with cfgVar := .type22 }] false 0#64 with holdc := 20000#20 },
    { liveSlot with cfgVar := .type22 }, by decide⟩

theorem witness_StartSignalTakesTwentyThousandFortyTicks :
    ∃ (s : State) (c : Slot), s.phase = .startLow ∧ s.holdc = s.params.tStartLow ∧
      s.slots[s.h.toNat]? = some c ∧ c.cfgVar = .type11 ∧ s.params.startTicks ≤ s.inputs.length ∧
      ∀ i ∈ s.nextInputs (s.params.startTicks + 1), i.rst = false := by
  refine ⟨{ at' .startLow [liveSlot] false 0#64 with
      holdc := 20000#20, inp := feed false, inputs := List.replicate 20040 (feed false) },
    liveSlot, rfl, rfl, rfl, rfl, ?_, ?_⟩
  · rw [List.length_replicate]
    decide
  · intro i hi
    rcases List.mem_cons.mp (List.mem_of_mem_take hi) with rfl | hi
    · rfl
    · rw [(List.mem_replicate.mp hi).2]; rfl

theorem witness_HandshakeTickOutcomes :
    (∃ s : State, s.inp.pinIn = s.exp ∧ s.cnt ≠ s.bud) ∧ (∃ s : State, s.inp.pinIn = s.exp ∧ s.cnt = s.bud) ∧
      (∃ s : State, s.inp.pinIn ≠ s.exp ∧ s.params.nBits ≠ 0#6) ∧ ∃ s : State, s.inp.pinIn ≠ s.exp ∧ s.params.nBits = 0#6 :=
  ⟨⟨waitingAt .ackLow 79#7 false, by decide⟩, ⟨waitingAt .ackHigh 80#7 true, by decide⟩,
    ⟨waitingAt .ackHigh 80#7 false, by decide⟩,
    ⟨{ waitingAt .ackHigh 80#7 false with params := { Params.default with nBits := 0#6 } }, by decide⟩⟩

theorem witness_BitTickOutcomes :
    (∃ s : State, s.inp.pinIn = s.exp ∧ s.cnt ≠ s.bud) ∧ (∃ s : State, s.inp.pinIn = s.exp ∧ s.cnt = s.bud) ∧
      (∃ s : State, s.inp.pinIn ≠ s.exp) ∧ (∃ s : State, s.inp.pinIn ≠ s.exp ∧ s.biti.toNat + 1 < s.params.nBits.toNat) ∧
      ∃ s : State, s.inp.pinIn ≠ s.exp ∧ s.biti.toNat + 1 = s.params.nBits.toNat :=
  ⟨⟨waitingAt .bitLow 49#7 false, by decide⟩, ⟨waitingAt .bitHigh 70#7 true, by decide⟩,
    ⟨waitingAt .bitLow 0#7 true, by decide⟩, ⟨{ waitingAt .bitHigh 0#7 false with biti := 38#6 }, by decide⟩,
    ⟨{ waitingAt .bitHigh 0#7 false with biti := 39#6 }, by decide⟩⟩

theorem witness_CountAboveThresholdIsOne :
    (∃ s : State, s.inp.pinIn ≠ s.exp) ∧
    (∃ s : State, s.bud = s.params.tBitLow ∧ s.inp.pinIn = s.exp ∧ s.cnt = s.bud) ∧
      ∃ s : State, s.bud = s.params.tBitHigh ∧ s.inp.pinIn = s.exp ∧ s.cnt = s.bud :=
  ⟨⟨{ waitingAt .bitHigh 28#7 false with biti := 39#6 }, by decide⟩, ⟨waitingAt .bitLow 50#7 false, by decide⟩,
    ⟨waitingAt .bitHigh 70#7 true, by decide⟩⟩

theorem witness_StoreBitWritesOneFrameBit : (0#6 : BitIndex).toNat < 40 ∧ (39#6 : BitIndex).toNat < 40 := by decide

theorem witness_ChecksumDecidesAcquisition :
    (∃ (s : State) (c : Slot), s.slots[s.h.toNat]? = some c ∧ s.frame.frame4.toNat =
      (s.frame.frame0.toNat + s.frame.frame1.toNat + s.frame.frame2.toNat + s.frame.frame3.toNat) % 256) ∧
    ∃ (s : State) (c : Slot), s.slots[s.h.toNat]? = some c ∧ s.frame.frame4.toNat ≠
      (s.frame.frame0.toNat + s.frame.frame1.toNat + s.frame.frame2.toNat + s.frame.frame3.toNat) % 256 :=
  ⟨⟨checking ⟨0xFF#8, 0xFF#8, 0xFF#8, 0xFF#8, 0xFC#8⟩, { liveSlot with tsv := true }, by decide⟩,
    ⟨checking ⟨0xFF#8, 0xFF#8, 0xFF#8, 0xFF#8, 0xFD#8⟩, { liveSlot with tsv := true }, by decide⟩⟩

theorem witness_WaitMeasuresTheLevel :
    (∃ (s : State) (n : Nat), s.phase.waiting = true ∧ s.exp = s.phase.expected ∧ s.bud = s.phase.budget s.params ∧ s.cnt = 0#7 ∧
      n = (s.phase.budget s.params).toNat ∧ s.offers (List.replicate n s.exp ++ [!s.exp])) ∧
    ∃ s : State, s.phase.waiting = true ∧ s.exp = s.phase.expected ∧ s.bud = s.phase.budget s.params ∧ s.cnt = 0#7 ∧
      s.offers (List.replicate (s.bud.toNat + 1) s.exp) :=
  ⟨⟨onLine (waitingAt .bitHigh 0#7 true) (List.replicate 70 true ++ [false]), 70, rfl, rfl, rfl, rfl, rfl,
      offers_onLine _ _⟩,
    ⟨onLine (waitingAt .bitLow 0#7 false) (List.replicate 51 false), rfl, rfl, rfl, rfl, offers_onLine _ _⟩⟩

/-- V14 (Ok(27)) and V17 (Timeout after 71 samples) as streams. -/
theorem witness_WaitFollowsItsLoop :
    (∃ (s : State) (levels rest : List Level), s.phase.waiting = true ∧ s.exp = s.phase.expected ∧
      s.bud = s.phase.budget s.params ∧ s.cnt = 0#7 ∧ s.offers levels ∧
      waitOn s.exp s.bud.toNat 0 levels = some (some 27, rest)) ∧
    ∃ (s : State) (levels rest : List Level), s.phase.waiting = true ∧ s.exp = s.phase.expected ∧
      s.bud = s.phase.budget s.params ∧ s.cnt = 0#7 ∧ s.offers levels ∧ waitOn s.exp s.bud.toNat 0 levels = some (none, rest) :=
  ⟨⟨onLine (waitingAt .bitHigh 0#7 true) (List.replicate 27 true ++ [false]), List.replicate 27 true ++ [false], [],
      rfl, rfl, rfl, rfl, offers_onLine _ _, by decide⟩,
    ⟨onLine (waitingAt .bitHigh 0#7 true) (List.replicate 72 true), List.replicate 72 true, [true],
      rfl, rfl, rfl, rfl, offers_onLine _ _, by decide⟩⟩

theorem witness_SymbolStoresItsBit :
    ∃ (s : State) (low high : Nat), s.params.fits = true ∧ s.phase = .bitLow ∧ s.exp = false ∧ s.bud = s.params.tBitLow ∧
      s.cnt = 0#7 ∧ s.biti.toNat + 1 = s.params.nBits.toNat ∧ low = s.params.tBitLow.toNat ∧
      high = s.params.tBitHigh.toNat ∧ s.offers (symbol low high) :=
  ⟨onLine { waitingAt .bitLow 0#7 false with biti := 39#6 } (symbol 50 70), 50, 70, by decide, rfl, rfl, rfl, rfl, rfl, rfl,
    rfl, offers_onLine _ _⟩

theorem witness_FrameIsAssembledFromSymbols :
    ∃ (s : State) (syms : List (Nat × Nat)), s.params.fits = true ∧ s.phase = .ackLow ∧ s.exp = false ∧
      s.bud = s.params.tAck ∧ s.cnt = 0#7 ∧ 80 ≤ s.params.tAck.toNat ∧ syms.length = s.params.nBits.toNat ∧
      (∀ p ∈ syms, p.1 ≤ s.params.tBitLow.toNat ∧ p.2 ≤ s.params.tBitHigh.toNat) ∧
      s.offers (symbol 80 80 ++ syms.flatMap fun p => symbol p.1 p.2) :=
  ⟨onLine (waitingAt .ackLow 0#7 false)
      (symbol 80 80 ++ (List.replicate 40 ((50, 70) : Nat × Nat)).flatMap fun p => symbol p.1 p.2),
    List.replicate 40 (50, 70), by decide, rfl, rfl, rfl, rfl, by decide, rfl, by decide, offers_onLine _ _⟩

/-! ### Witnesses of the invariant -/

/-- An acquiring state in which every field of the invariant has something to say. -/
theorem inv_waitingAt (p : Phase) (c : Count) (v : Level) (hw : p.waiting = true) (hc : c ≤ p.budget .default) :
    (waitingAt p c v).Inv := by
  have slots : ∀ d ∈ (waitingAt p c v).slots, d.Sound := by
    intro d hd
    obtain rfl : d = { liveSlot with tsv := true } := by simpa [waitingAt, at'] using hd
    exact ⟨by decide, by decide⟩
  cases p <;> simp [Phase.waiting] at hw <;>
    exact ⟨(by decide : Params.default.fits = true), ⟨Nat.le_refl 1, show 1 ≤ 256 by omega⟩, slots, fun _ => ⟨{ liveSlot with tsv := true }, rfl, rfl, fun _ => rfl⟩,
      by simp [waitingAt, at', State.reset, State.resetWith], by simp [waitingAt, at', State.reset, State.resetWith], by simp [waitingAt, at'],
      by simp [waitingAt, at'], by simp [waitingAt, at', Phase.longestHold], by simp [waitingAt, at'],
      fun _ => ⟨rfl, rfl, hc⟩, fun _ => (by decide : (0#6 : BitIndex) < Params.default.nBits), by simp [waitingAt, at'],
      by simp [waitingAt, at', State.reset, State.resetWith], by simp [waitingAt, at', State.reset, State.resetWith]⟩

/-- A READ of a handle that is not live, offered in IDLE. -/
theorem inv_offering_dead : (offering [Slot.reset] 0x70000000#32 0#64).Inv := by
  refine ⟨by decide, by decide, ?_, by decide, by decide, by decide, by decide, by decide, nofun, by decide, by decide,
    by decide, by decide, by decide, by decide⟩
  intro d hd
  obtain rfl : d = Slot.reset := by simpa [offering] using hd
  exact ⟨by decide, by decide⟩

theorem witness_StepKeepsInvariant : ∃ s t : State, s.Inv ∧ step s = .next t ∧ s.phase = .bitHigh :=
  ⟨waitingAt .bitHigh 28#7 false, _, inv_waitingAt _ _ _ rfl (by decide), rfl, rfl⟩

theorem witness_OnlyCommandsCanStop : ∃ s : State, s.Inv ∧ ∀ t, step s ≠ .next t := by
  refine ⟨offering [Slot.reset] 0x70000000#32 0#64, inv_offering_dead, fun t h => ?_⟩
  have e : step (offering [Slot.reset] 0x70000000#32 0#64) = .fault .readDeadHandle := rfl
  rw [e] at h
  cases h

theorem witness_EveryCommandEnds :
    ∃ s : State, s.Inv ∧ s.phase = .bitHigh ∧ s.stepsLeft ≤ s.inputs.length + 1 ∧
      ∀ i ∈ s.nextInputs s.stepsLeft, i.rst = false := by
  have inv := inv_waitingAt .bitHigh 70#7 false rfl (by decide)
  refine ⟨onLine { waitingAt .bitHigh 70#7 false with biti := 39#6 } (List.replicate 3 false), ?_, rfl, by decide, by decide⟩
  exact ⟨inv.params, inv.handles, inv.slots, inv.working, inv.drives, inv.idleHigh, inv.low, inv.high, inv.held, inv.lowHeld, inv.waits,
    fun _ => by decide, by decide, inv.noTimeout, inv.delivered⟩

theorem witness_AcquisitionTicksAreBounded :
    (∃ s : State, s.phase = .startLow ∧ s.holdc = s.params.tStartLow) ∧
      ∃ s t : State, s.Inv ∧ s.inp.rst = false ∧ s.phase ≠ .idle ∧ step s = .next t :=
  ⟨⟨{ State.reset with phase := .startLow, holdc := 20000#20 }, rfl, rfl⟩,
    ⟨waitingAt .ackLow 3#7 false, _, inv_waitingAt _ _ _ rfl (by decide), rfl, by decide, rfl⟩⟩

theorem witness_PinRegistersWrittenByStartOnly :
    (∃ (i : Instr) (s t : State), exec i s = .next t ∧ i ≠ .phaseStartLow ∧ i ≠ .phaseStartHigh) ∧
      ∃ s t : State, s.Inv ∧ s.phase.working = true ∧ step s = .next t ∧ t.phase = .respond :=
  ⟨⟨.phaseRespond, at' .respond [] false 0#64, _, rfl, by decide, by decide⟩,
    ⟨waitingAt .ackLow 80#7 false, _, inv_waitingAt _ _ _ rfl (by decide), rfl, rfl, rfl⟩⟩

theorem witness_NoSampleWhileDriving :
    ∃ (s t : State) (p : Byte) (v : Level), s.Inv ∧ step s = .next t ∧
      .get p v ∈ t.trace.take (t.trace.length - s.trace.length) :=
  ⟨waitingAt .ackLow 3#7 false, _, 0#8, false, inv_waitingAt _ _ _ rfl (by decide), rfl, by decide⟩

theorem witness_InstructionTouchesOnlySlotH :
    ∃ (i : Instr) (s t : State) (j : Nat), s.slots.length ≤ 256 ∧ exec i s = .next t ∧ j ≠ t.h.toNat ∧ j < s.slots.length :=
  ⟨.create true .type11 9, at' .idle [Slot.reset, liveSlot] false 0#64, _, 1, by decide, rfl, by decide, by decide⟩

theorem witness_LiveConfigurationIsImmutable :
    ∃ (i : Instr) (s t : State) (c : Slot), exec i s = .next t ∧ s.slots[0]? = some c ∧ c.alloc = true :=
  ⟨.read true true 0, at' .idle [liveSlot] false 1000000#64, _, liveSlot, rfl, rfl, rfl⟩

theorem witness_CacheChangesOnlyByPassingFrame :
    ∃ (i : Instr) (s t : State) (c d : Slot), exec i s = .next t ∧ s.slots[0]? = some c ∧ t.slots[0]? = some d ∧
      d.lastReading ≠ c.lastReading ∧ c.rvalid = false ∧ d.rvalid = true :=
  ⟨.phaseCheck, checking ⟨0x32#8, 0x00#8, 0x18#8, 0x05#8, 0x4F#8⟩, _, { liveSlot with tsv := true },
    { liveSlot with tsv := true, rvalid := true, lastReading := 0x32001805#32 }, rfl, rfl, rfl, by decide⟩

theorem witness_AcquisitionStartsOnlyOutsideWindow :
    (∃ s t : State, s.inp.rst = false ∧ s.phase = .idle ∧ step s = .next t ∧ t.phase = .startLow) ∧
      ∃ s t : State, s.inp.rst = false ∧ s.phase = .settle ∧ step s = .next t ∧ t.phase = .startLow :=
  ⟨⟨offering [readSlotV64] 0x70000000#32 7000000#64, _, rfl, rfl, rfl, rfl⟩,
    ⟨at' .settle [liveSlot] false 1000000#64, _, rfl, rfl, rfl, rfl⟩⟩

theorem witness_FailureLeavesCache :
    ∃ s t : State, s.inp.rst = false ∧ s.phase ≠ .respond ∧ step s = .next t ∧ t.phase = .respond ∧
      t.rspArgs.status = .fail :=
  ⟨waitingAt .bitHigh 70#7 true, _, rfl, by decide, rfl, rfl, rfl⟩

theorem witness_PhaseMovesAlongGraph :
    (∃ s t : State, s.inp.rst = false ∧ step s = .next t ∧ s.phase = .startLow ∧ t.phase = .ackLow) ∧
      ∃ s t : State, s.inp.rst = false ∧ step s = .next t ∧ s.phase = .ackHigh ∧ t.phase = .bitLow :=
  ⟨⟨{ State.resetWith (noHolds 0#20) 1 with phase := .startLow, slots := [liveSlot] }, _, rfl, rfl, rfl, rfl⟩,
    ⟨waitingAt .ackHigh 5#7 false, _, rfl, rfl, rfl, rfl⟩⟩

/-- Every state before tick `k` is in a phase of WAIT. -/
def allWaiting : Nat → State → Bool
  | 0, _ => true
  | k + 1, s => s.phase.waiting && match step s with
    | .next s' => allWaiting k s'
    | .fault _ => false
    | .refused _ => false

theorem waiting_of_allWaiting {k : Nat} {s : State} (h : allWaiting k s = true) :
    ∀ j < k, ∃ u, runFor j s = some u ∧ u.phase.waiting = true := by
  induction k generalizing s with
  | zero => simp
  | succ k ih =>
    simp only [allWaiting, Bool.and_eq_true] at h
    intro j hj
    cases j with
    | zero => exact ⟨s, rfl, h.1⟩
    | succ j =>
      cases hs : step s with
      | next s' =>
        simp only [hs] at h
        obtain ⟨u, hu, hw⟩ := ih h.2 j (by omega)
        exact ⟨u, by simpa [runFor, hs] using hu, hw⟩
      | fault f => simp [hs] at h
      | refused f => simp [hs] at h

/-- The stream of V29 (82 samples, alternating) reaches CHECK; the stuck line of V25 aborts. -/
theorem witness_CompleteAcquisitionMakesEightyTwoWaits :
    (∃ (s t : State) (k : Nat), s.params.fits = true ∧ s.phase = .ackLow ∧ runFor k s = some t ∧ t.phase = .check ∧
      ∀ j < k, ∃ u, runFor j s = some u ∧ u.phase.waiting = true) ∧
    ∃ (s t : State) (k : Nat), s.params.fits = true ∧ s.phase = .ackLow ∧ runFor k s = some t ∧ t.phase = .respond ∧
      ∀ j < k, ∃ u, runFor j s = some u ∧ u.phase.waiting = true := by
  refine ⟨⟨onLine (waitingAt .ackLow 0#7 true) (List.replicate 41 [true, false]).flatten, _, 82, by decide, rfl, rfl, ?_,
    waiting_of_allWaiting ?_⟩, ⟨waitingAt .ackLow 80#7 false, _, 1, by decide, rfl, rfl, rfl, waiting_of_allWaiting ?_⟩⟩
  · decide
  · decide
  · decide

theorem witness_ResetSatisfiesInvariant : Params.default.fits = true ∧ shortParams.fits = true := by decide

theorem witness_ParametersAndSlotCountNeverChange :
    ∃ s t : State, step s = .next t ∧ s.params = shortParams ∧ s.inp.rst = true :=
  ⟨{ State.resetWith shortParams 2 with inp := { Inputs.reset with rst := true } }, _, rfl, rfl, rfl⟩

theorem witness_RespondSpendsOvhFirst :
    ∃ s : State, s.phase = .respond ∧ s.ovhLeft = 2 ∧ s.ovhLeft ≤ s.inputs.length ∧
      ∀ i ∈ s.nextInputs (s.ovhLeft + 1), i.rst = false :=
  ⟨{ at' .respond [] false 0#64 with ovhLeft := 2, inputs := [feed false, feed true] }, rfl, rfl, by decide, by decide⟩

end Sys2Proof.Tests
end

/-!
PROOFS of the family spec/00_scope.md: the fixed parameters and slot count (R5, R6), the ticks of OVH (R6, R170), the defaults
of the parameters (R5).
-/

namespace Sys2Proof.Machine

/-! ## The machine's parameters and its number of slots -/

/-- `t` is a state of the same machine as `s`: the parameters of spec/00_scope.md R5 and NHANDLES of R6 agree. -/
structure State.SameMachine (s t : State) : Prop where
  params : t.params = s.params
  slotCount : t.slots.length = s.slots.length

theorem State.SameMachine.trans {s t u : State} (h₁ : s.SameMachine t) (h₂ : t.SameMachine u) : s.SameMachine u :=
  ⟨h₂.params.trans h₁.params, h₂.slotCount.trans h₁.slotCount⟩

/-- An operation that starts after an update of other fields stays in the machine from before the update. -/
theorem State.SameMachine.after {s t u : State} (h : t.SameMachine u) (hp : t.params = s.params) (hs : t.slots = s.slots) :
    s.SameMachine u :=
  State.SameMachine.trans ⟨hp, congrArg List.length hs⟩ h

theorem State.putSlot_sameMachine (s : State) (k : Nat) (c : Slot) : s.SameMachine (s.putSlot k c) :=
  ⟨rfl, List.length_set⟩

theorem State.blockReset_sameMachine (s : State) : s.SameMachine s.blockReset :=
  ⟨rfl, resetSlots_length s.drawn 0 s.slots⟩

theorem State.nextTick_sameMachine (s : State) : s.SameMachine s.nextTick :=
  ⟨s.nextTick_params, congrArg List.length s.nextTick_slots⟩

theorem State.waitTick_sameMachine {f : State → Count → State} (hf : ∀ (u : State) (c : Count), u.SameMachine (f u c)) (s : State) :
    s.SameMachine (s.waitTick f) := by
  obtain ⟨-, -, h⟩ | ⟨-, h⟩ | ⟨-, -, h⟩ := s.waitTick_cases f
  · rw [h]; exact ⟨rfl, rfl⟩
  · rw [h]; exact (hf s.sample s.cnt).after rfl rfl
  · rw [h]; exact ⟨rfl, rfl⟩

theorem State.bitLoop_sameMachine (s : State) : s.SameMachine s.bitLoop := by
  obtain ⟨-, h⟩ | ⟨-, h⟩ := s.bitLoop_cases <;> rw [h] <;> exact ⟨rfl, rfl⟩

theorem State.storeBit_sameMachine (s : State) (c : Count) : s.SameMachine (s.storeBit c) := by
  obtain ⟨-, h⟩ | ⟨-, h⟩ := s.storeBit_cases c <;> rw [h] <;> exact ⟨rfl, rfl⟩

theorem State.startHighTick_sameMachine (s : State) : s.SameMachine s.startHighTick := by
  obtain ⟨-, h⟩ | ⟨-, h⟩ := s.startHighTick_cases <;> rw [h] <;> exact ⟨rfl, rfl⟩

theorem State.startHighFirst_sameMachine (s : State) : s.SameMachine s.startHighFirst :=
  s.driveHigh.startHighTick_sameMachine.after rfl rfl

theorem State.startLowTick_sameMachine (s : State) : s.SameMachine s.startLowTick := by
  obtain ⟨-, h⟩ | ⟨-, h⟩ := s.startLowTick_cases <;> rw [h] <;> exact ⟨rfl, rfl⟩

theorem State.startLowFirst_sameMachine (s : State) (c : Slot) : s.SameMachine (s.startLowFirst c) := by
  obtain ⟨-, h⟩ | ⟨-, h⟩ := s.startLowFirst_cases c
  · rw [h]; exact (s.driveLow c).enterStartHigh.startHighFirst_sameMachine.after rfl rfl
  · rw [h]; exact (s.driveLow c).startLowTick_sameMachine.after rfl rfl

theorem State.readSlot_sameMachine (s : State) (c : Slot) : s.SameMachine (s.readSlot c) := by
  obtain ⟨-, -, h⟩ | ⟨-, -, h⟩ | ⟨-, h⟩ := s.readSlot_cases c
  · rw [h]; exact ⟨rfl, rfl⟩
  · rw [h]; exact ⟨rfl, rfl⟩
  · rw [h]; exact (s.putSlot_sameMachine s.h.toNat (c.attempted s.t)).trans ⟨rfl, rfl⟩

theorem State.readFrom_sameMachine (s : State) (c : Slot) : s.SameMachine (s.readFrom c) := by
  obtain ⟨-, h⟩ | ⟨-, h⟩ := s.readFrom_cases c
  · rw [h]; exact ⟨rfl, rfl⟩
  · rw [h]; exact (s.readNow.readSlot_sameMachine c).after rfl rfl

theorem execCreate_sameMachine {cp : Bool} {var : Variant} {pin : Nat} {s t : State}
    (h : execCreate cp var pin s = .next t) : s.SameMachine t := by
  obtain ⟨-, rfl⟩ | ⟨-, -, -, rfl⟩ | ⟨-, -, k, c, -, rfl⟩ := execCreate_next h
  · exact ⟨rfl, rfl⟩
  · exact ⟨rfl, rfl⟩
  · exact ⟨rfl, List.length_set⟩

theorem execDestroy_sameMachine {hp : Bool} {n : Nat} {s t : State} (h : execDestroy hp n s = .next t) :
    s.SameMachine t := by
  obtain ⟨-, c, -, -, rfl⟩ := execDestroy_next h
  exact ⟨rfl, List.length_set⟩

theorem execRead_sameMachine {hp dp : Bool} {n : Nat} {s t : State} (h : execRead hp dp n s = .next t) :
    s.SameMachine t := by
  obtain ⟨-, rfl⟩ | ⟨-, -, c, -, -, rfl⟩ := execRead_next h
  · exact ⟨rfl, rfl⟩
  · exact (State.readFrom_sameMachine { s with h := BitVec.ofNat 8 n } c).after rfl rfl

theorem execPhaseIdle_sameMachine {s t : State} (h : execPhaseIdle s = .next t) : s.SameMachine t := by
  have accepted : s.SameMachine (s.accept s.inp.cmdWord) := ⟨rfl, rfl⟩
  obtain ⟨-, e⟩ | ⟨-, ⟨_, _, _, -, e⟩ | ⟨_, _, _, -, e⟩ | ⟨_, _, -, e⟩ | ⟨-, e⟩⟩ := execPhaseIdle_cases s <;> rw [e] at h
  · cases h; exact ⟨rfl, rfl⟩
  · exact accepted.trans (execCreate_sameMachine h)
  · exact accepted.trans (execRead_sameMachine h)
  · exact accepted.trans (execDestroy_sameMachine h)
  · cases h; exact ⟨rfl, rfl⟩

theorem execPhaseSettle_sameMachine {s t : State} (h : execPhaseSettle s = .next t) : s.SameMachine t := by
  obtain ⟨-, rfl⟩ | ⟨-, c, -, rfl⟩ := execPhaseSettle_next h
  · exact ⟨rfl, rfl⟩
  · exact (s.readNow.readSlot_sameMachine c).after rfl rfl

theorem execPhaseStartLow_sameMachine {s t : State} (h : execPhaseStartLow s = .next t) : s.SameMachine t := by
  obtain ⟨c, -, ⟨-, -, rfl⟩ | ⟨-, rfl⟩⟩ := execPhaseStartLow_next h
  · exact s.startLowFirst_sameMachine c
  · exact s.startLowTick_sameMachine

theorem execPhaseStartHigh_sameMachine {s t : State} (h : execPhaseStartHigh s = .next t) : s.SameMachine t := by
  obtain ⟨-, e⟩ | ⟨-, e⟩ := execPhaseStartHigh_cases s <;> rw [e] at h <;> cases h
  · exact s.startHighFirst_sameMachine
  · exact s.startHighTick_sameMachine

theorem execPhaseCheck_sameMachine {s t : State} (h : execPhaseCheck s = .next t) : s.SameMachine t := by
  obtain ⟨-, c, -, rfl⟩ | ⟨-, rfl⟩ := execPhaseCheck_next h
  · exact ⟨rfl, List.length_set⟩
  · exact ⟨rfl, rfl⟩

theorem execPhaseRespond_sameMachine {s t : State} (h : execPhaseRespond s = .next t) : s.SameMachine t := by
  obtain ⟨-, e⟩ | ⟨-, e⟩ := execPhaseRespond_cases s <;> rw [e] at h <;> cases h <;> exact ⟨rfl, rfl⟩

/-- Every instruction's meaning stays in its machine. -/
theorem exec_sameMachine {i : Instr} {s t : State} (h : exec i s = .next t) : s.SameMachine t := by
  cases i with
  | create => exact execCreate_sameMachine h
  | read => exact execRead_sameMachine h
  | destroy => exact execDestroy_sameMachine h
  | phaseIdle => exact execPhaseIdle_sameMachine h
  | phaseSettle => exact execPhaseSettle_sameMachine h
  | phaseStartLow => exact execPhaseStartLow_sameMachine h
  | phaseStartHigh => exact execPhaseStartHigh_sameMachine h
  | phaseAckLow => cases h; exact s.waitTick_sameMachine (f := fun u _ => u.enterAckHigh) fun _ _ => ⟨rfl, rfl⟩
  | phaseAckHigh =>
    cases h
    exact s.waitTick_sameMachine fun u _ =>
      (State.bitLoop_sameMachine { u with biti := 0#6 }).after rfl rfl
  | phaseBitLow => cases h; exact s.waitTick_sameMachine (f := fun u _ => u.enterBitHigh) fun _ _ => ⟨rfl, rfl⟩
  | phaseBitHigh => cases h; exact s.waitTick_sameMachine State.storeBit_sameMachine
  | phaseCheck => exact execPhaseCheck_sameMachine h
  | phaseRespond => exact execPhaseRespond_sameMachine h

theorem step_sameMachine {s t : State} (h : step s = .next t) : s.SameMachine t := by
  obtain ⟨-, rfl⟩ | ⟨-, u, hu, rfl⟩ := step_cases h
  · exact s.blockReset_sameMachine.trans s.blockReset.nextTick_sameMachine
  · have begun : s.SameMachine s.beginTick := ⟨rfl, rfl⟩
    exact (begun.trans (exec_sameMachine hu)).trans u.nextTick_sameMachine

/-- Settles O53: every meaning, the block reset and the change of tick stay in the same machine. -/
theorem parametersAndSlotCountNeverChange : Obligations.ParametersAndSlotCountNeverChange := by
  unfold Obligations.ParametersAndSlotCountNeverChange
  intro s t h
  exact ⟨(step_sameMachine h).params, (step_sameMachine h).slotCount⟩

/-! ## Runs of several ticks -/

theorem runFor_succ_of_step {s u : State} (h : step s = .next u) (k : Nat) : runFor (k + 1) s = runFor k u := by
  simp [runFor, h]

/-- A run may be cut in two. -/
theorem runFor_add (j k : Nat) (s : State) : runFor (j + k) s = (runFor j s).bind (runFor k) := by
  induction j generalizing s with
  | zero => simp [runFor]
  | succ j ih =>
    rw [Nat.add_right_comm]
    cases h : step s with
    | next u => rw [runFor_succ_of_step h, runFor_succ_of_step h, ih]
    | fault r => simp [runFor, h]
    | refused r => simp [runFor, h]

theorem State.inp_mem_nextInputs (s : State) (n : Nat) : s.inp ∈ s.nextInputs (n + 1) :=
  List.mem_cons_self

/-- With its next levels given, a tick's end moves the window of the coming inputs on by one. -/
theorem State.nextInputs_nextTick {s : State} (h : s.inputs ≠ []) (n : Nat) :
    s.nextInputs (n + 1) = s.inp :: s.nextTick.nextInputs n := by
  obtain ⟨i, l, hi⟩ := List.exists_cons_of_ne_nil h
  simp [State.nextInputs, State.nextTick_cons s hi, hi]

theorem State.length_inputs_nextTick (s : State) : s.nextTick.inputs.length = s.inputs.length - 1 := by
  cases h : s.inputs <;> simp [State.nextTick, h]

/-! ## The ticks of OVH -/

/-- A tick of RESPOND with OVH left spends one tick of it (log 6). -/
theorem step_respond_ovh {s : State} (hp : s.phase = .respond) (hr : s.inp.rst = false) (ho : s.ovhLeft ≠ 0) :
    step s = .next s.beginTick.ovhTick.nextTick := by
  refine step_of_exec hr ?_
  rw [hp]
  exact if_neg ho

/-- A tick of RESPOND with no OVH left delivers the response (spec/42_handle_commands.md R131). -/
theorem step_respond_deliver {s : State} (hp : s.phase = .respond) (hr : s.inp.rst = false) (ho : s.ovhLeft = 0) :
    step s = .next s.beginTick.deliver.nextTick := by
  refine step_of_exec hr ?_
  rw [hp]
  exact if_pos ho

/-- `t` is what `k` ticks of OVH make of the RESPOND state `s`: the response is still to come and the trace has not grown. -/
structure State.OvhSpent (k : Nat) (s t : State) : Prop where
  phase : t.phase = .respond
  ovhLeft : t.ovhLeft = s.ovhLeft - k
  rspArgs : t.rspArgs = s.rspArgs
  slots : t.slots = s.slots
  trace : t.trace = s.trace
  rspValid : 1 ≤ k ∨ s.rspValid = false → t.rspValid = false
  inp : t.inp ∈ s.nextInputs (k + 1)

/-- As many ticks of OVH as are left can be spent, while no reset comes. -/
theorem runFor_respond_ovh {k : Nat} {s : State} (hp : s.phase = .respond) (ho : k ≤ s.ovhLeft) (hl : k ≤ s.inputs.length)
    (hr : ∀ i ∈ s.nextInputs k, i.rst = false) : ∃ t, runFor k s = some t ∧ s.OvhSpent k t := by
  induction k generalizing s with
  | zero => exact ⟨s, rfl, hp, rfl, rfl, rfl, rfl, by simp, s.inp_mem_nextInputs 0⟩
  | succ k ih =>
    have hstep := step_respond_ovh hp (hr _ (s.inp_mem_nextInputs k)) (by omega)
    have hwindow := State.nextInputs_nextTick (s := s.beginTick.ovhTick) (List.length_pos_iff.mp (Nat.zero_lt_of_lt hl))
    have hovh : s.beginTick.ovhTick.nextTick.ovhLeft = s.ovhLeft - 1 := by simp
    have hlen : s.beginTick.ovhTick.nextTick.inputs.length = s.inputs.length - 1 := by simp [State.length_inputs_nextTick]
    obtain ⟨t, ht, spent⟩ := ih (s := s.beginTick.ovhTick.nextTick) (by simpa using hp) (by omega) (by omega)
      (fun i hi => hr i (hwindow k ▸ List.mem_cons_of_mem _ hi))
    exact ⟨t, (runFor_succ_of_step hstep k).trans ht,
      { phase := spent.phase
        ovhLeft := by rw [spent.ovhLeft, hovh, Nat.sub_sub, Nat.add_comm 1 k]
        rspArgs := spent.rspArgs.trans (by simp)
        slots := spent.slots.trans (by simp)
        trace := spent.trace.trans (by simp)
        rspValid := fun _ => spent.rspValid (.inr (by simp))
        inp := hwindow (k + 1) ▸ List.mem_cons_of_mem _ spent.inp }⟩

/-- Settles O54: the ticks of OVH are spent one by one, and the tick that finds none left delivers. -/
theorem respondSpendsOvhFirst : Obligations.RespondSpendsOvhFirst := by
  unfold Obligations.RespondSpendsOvhFirst
  intro s hp hl hr
  have spend (k : Nat) (hk : k ≤ s.ovhLeft) : ∃ t, runFor k s = some t ∧ s.OvhSpent k t :=
    runFor_respond_ovh hp hk (hk.trans hl) fun i hi => hr i (List.take_subset_take_left _ (by omega) hi)
  constructor
  · intro k h1 hk
    obtain ⟨t, ht, spent⟩ := spend k hk
    exact ⟨t, ht, spent.phase, spent.rspValid (.inl h1), spent.trace, spent.ovhLeft⟩
  · obtain ⟨t, ht, spent⟩ := spend s.ovhLeft le_rfl
    have delivers := step_respond_deliver spent.phase (hr _ spent.inp) (by simp [spent.ovhLeft])
    refine ⟨t.beginTick.deliver.nextTick, ?_, ?_⟩
    · rw [runFor_add, ht]
      exact runFor_succ_of_step delivers 0
    · simp [spent.rspArgs, spent.trace, spent.slots]

/-! ## The defaults -/

/-- Settles O52: the reset state has the defaults, and each of them is the number of R5's table. -/
theorem parameterDefaults : Obligations.ParameterDefaults :=
  ⟨rfl, default_tStartLow_toNat, default_tStartHigh_toNat, default_tAck_toNat, default_tBitLow_toNat, default_tBitHigh_toNat,
    default_tOne_toNat, default_nBits_toNat, rfl, rfl, default_tSettle_toNat, default_tThrottle_toNat⟩

end Sys2Proof.Machine

/-!
PROOFS of the family spec/10_state.md: the invariant and that every step keeps it (R13, R18, R67, R90, R121, R143, R169), the
registers of the output ports (R12, R21, R22), the handle context file (R15, R16, R18), the Reading (R19), the input ports (R12,
R24), the instruction of a tick (R12).
-/

namespace Sys2Proof

/-! ## Facts about the phases -/

/-- Each PHASE row is the instruction of one phase only (spec/30_encoding.md R71). -/
theorem Phase.instr_injective : Function.Injective Phase.instr := by
  intro p q h
  cases p <;> cases q <;> simp [Phase.instr] at h ⊢

theorem Phase.working_of_acquiring {p : Phase} (h : p.acquiring = true) : p.working = true := by
  cases p with
  | settle | startLow | startHigh | ackLow | ackHigh | bitLow | bitHigh | check => rfl
  | idle | respond => cases h

/-- A WAIT is inside ACQUIRE, after the start signal, and no hold. -/
theorem Phase.kind_of_waiting {p : Phase} (h : p.waiting = true) :
    p.acquiring = true ∧ p.starting = false ∧ ∀ q, p.longestHold q = none := by
  cases p with
  | ackLow | ackHigh | bitLow | bitHigh => exact ⟨rfl, rfl, fun _ => rfl⟩
  | idle | settle | startLow | startHigh | check | respond => cases h

end Sys2Proof

namespace Sys2Proof.Machine

/-! ## A tick without reset -/

theorem step_eq_afterExec {s : State} (hr : s.inp.rst = false) : step s = afterExec (exec s.phase.instr s.beginTick) := by
  simp only [step, hr, Bool.false_eq_true, reduceIte]
  cases exec s.phase.instr s.beginTick <;> rfl

/-- A tick without reset that answers a next state has run its phase's instruction. -/
theorem step_exec {s t : State} (hr : s.inp.rst = false) (h : step s = .next t) :
    ∃ u, exec s.phase.instr s.beginTick = .next u ∧ t = u.nextTick := by
  obtain ⟨hr', -⟩ | ⟨-, hu⟩ := step_cases h
  · simp [hr] at hr'
  · exact hu

/-- Settles O7: the decoder gives a phase's code the phase's instruction, and the step runs that one. -/
theorem stepRunsPhaseInstruction : Obligations.StepRunsPhaseInstruction := by
  unfold Obligations.StepRunsPhaseInstruction
  intro s i hr hi
  obtain rfl : s.phase.instr = i := by simpa [decode] using hi
  exact step_eq_afterExec hr

/-! ## The bytes of a Reading -/

/-- `signed8` is the two's complement reading of a byte. -/
theorem signed8_eq_toInt (v : Byte) : signed8 v = v.toInt := by
  simp only [signed8, BitVec.toInt]
  split <;> split <;> omega

/-- BUILD keeps the four data bytes apart (spec/41_frame_decoder.md R108). -/
theorem RawFrame.build_bytes (f : RawFrame) :
    f.build.extractLsb' 24 8 = f.frame0 ∧ f.build.extractLsb' 16 8 = f.frame1 ∧
      f.build.extractLsb' 8 8 = f.frame2 ∧ f.build.extractLsb' 0 8 = f.frame3 := by
  have above {v w n : Nat} {x : BitVec v} {y : BitVec w} : (x ++ y).extractLsb' (w + n) 8 = x.extractLsb' n 8 := by
    rw [BitVec.extractLsb'_append_eq_of_le (Nat.le_add_right w n), Nat.add_sub_cancel_left]
  refine ⟨?_, ?_, ?_, BitVec.extractLsb'_append_eq_right⟩
  · exact (above (n := 16)).trans ((above (n := 8)).trans BitVec.extractLsb'_append_eq_left)
  · exact (above (n := 8)).trans ((above (n := 0)).trans BitVec.extractLsb'_append_eq_right)
  · exact (above (n := 0)).trans BitVec.extractLsb'_append_eq_right

/-- Settles O33: each number of the Reading is read from its own byte of the frame. -/
theorem readingBytesAreTyped : Obligations.ReadingBytesAreTyped := by
  unfold Obligations.ReadingBytesAreTyped
  intro f
  obtain ⟨h0, h1, h2, h3⟩ := f.build_bytes
  simp only [readingOf, h0, h1, h2, h3, signed8_eq_toInt]

/-! ## Holds and counts as numbers -/

theorem add_one_le_of_lt {w : Nat} {c b : BitVec w} (h : c < b) : c + 1#w ≤ b := by
  rw [BitVec.lt_def] at h
  rw [BitVec.le_def, BitVec.toNat_add, BitVec.toNat_ofNat]
  exact (Nat.mod_le _ _).trans ((Nat.add_le_add_left (Nat.mod_le _ _) _).trans h)

theorem holdc_sub_one_toNat {n : HoldCount} (h : n ≠ 0#20) : (n - 1#20).toNat = n.toNat - 1 := by
  have : n.toNat ≠ 0 := fun h0 => h (BitVec.eq_of_toNat_eq h0)
  bv_omega

/-- T_SETTLE - T, as HOLDC takes it, is at most T_SETTLE (spec/42_handle_commands.md R125). -/
theorem settleHold_le {p : Params} {t : Time} (h : belowSettle p t = true) :
    (settleHold p t).toNat ≤ p.tSettle.toNat := by
  have ht : t ≤ p.tSettle := by simp only [belowSettle, BitVec.ult, decide_eq_true_eq] at h; exact h.le
  rw [settleHold, BitVec.toNat_setWidth, BitVec.toNat_sub_of_le ht]
  exact (Nat.mod_le _ _).trans (Nat.sub_le _ _)

theorem moreBits_iff {p : Params} {i : BitIndex} : moreBits p i = true ↔ i < p.nBits := by
  simp [moreBits, BitVec.ult, BitVec.lt_def]

/-! ## The invariant by the phase a state is in -/

/-- What the invariant says of a state in any phase. -/
structure Sane (p : Params) (slots : List Slot) (status : Status) : Prop where
  params : p.fits = true
  handles : 1 ≤ slots.length ∧ slots.length ≤ 256
  slots : ∀ c ∈ slots, c.Sound
  noTimeout : status ≠ .timeout

/-- `Sane` of the parts of a state it speaks of. -/
def State.Sane (s : State) : Prop := Machine.Sane s.params s.slots s.rspArgs.status

/-- The block leaves the line alone: the pin is an input and its output register 1 (spec/41_frame_decoder.md R110). -/
def State.Released (s : State) : Prop := s.pinOe = false ∧ s.pinOut = true

/-- The command works on a live slot; `opened` says that READ has opened the slot's window. -/
def State.WorksOnLive (s : State) (opened : Bool) : Prop :=
  ∃ c, s.slots[s.h.toNat]? = some c ∧ c.alloc = true ∧ (opened = true → c.tsv = true)

/-- The registers of a WAIT as its phase sets them, with CNT within the budget (spec/40_signal_waiter.md R90). -/
def State.WaitsIn (s : State) (p : Phase) : Prop :=
  s.exp = p.expected ∧ s.bud = p.budget s.params ∧ s.cnt ≤ p.budget s.params

/-- What the invariant says of a state for the phase it is in, one constructor for each kind of phase. -/
inductive State.AtPhase (s : State) : Prop
  | idle (phase : s.phase = .idle) (released : s.Released)
  | respond (phase : s.phase = .respond) (released : s.Released)
  | settle (phase : s.phase = .settle) (works : s.WorksOnLive false) (released : s.Released)
      (held : s.holdc.toNat ≤ s.params.tSettle.toNat)
  | startLow (phase : s.phase = .startLow) (works : s.WorksOnLive true)
      (held : s.holdc.toNat ≤ s.params.tStartLow.toNat)
      (low : s.holdc ≠ s.params.tStartLow → s.pinOe = true ∧ s.pinOut = false ∧ s.holdc ≠ 0#20)
  | startHigh (phase : s.phase = .startHigh) (works : s.WorksOnLive true) (drives : s.pinOe = true)
      (held : s.holdc.toNat ≤ s.params.tStartHigh.toNat) (high : s.holdc ≠ s.params.tStartHigh → s.pinOut = true)
  | waiting (phase : s.phase.waiting = true) (works : s.WorksOnLive true) (released : s.Released)
      (waits : s.WaitsIn s.phase) (bits : s.phase = .bitLow ∨ s.phase = .bitHigh → s.biti < s.params.nBits)
  | check (phase : s.phase = .check) (works : s.WorksOnLive true) (released : s.Released)
      (allBits : s.biti = s.params.nBits)

theorem State.AtPhase.working {s : State} (h : s.AtPhase) (hw : s.phase.working = true) :
    s.WorksOnLive s.phase.acquiring := by
  cases h with
  | idle phase | respond phase => rw [phase] at hw; cases hw
  | settle phase works | startLow phase works | startHigh phase works | check phase works => rw [phase]; exact works
  | waiting phase works => rw [(Phase.kind_of_waiting phase).1]; exact works

theorem State.AtPhase.released_or_starting {s : State} (h : s.AtPhase) : s.Released ∨ s.phase.starting = true := by
  cases h with
  | startLow phase | startHigh phase => exact .inr (by rw [phase]; rfl)
  | idle _ released | respond _ released => exact .inl released
  | settle _ _ released | waiting _ _ released | check _ _ released => exact .inl released

/-- The invariant from what it says in any phase, of the phase, and of the response port. -/
theorem State.inv_of_atPhase {s : State} (sane : s.Sane) (place : s.AtPhase)
    (delivered : s.rspValid = true → s.phase = .idle ∧ s.rspStatus.toNat ≤ 3) : s.Inv where
  params := sane.params
  handles := sane.handles
  slots := sane.slots
  noTimeout := sane.noTimeout
  delivered := delivered
  working := place.working
  drives ho := place.released_or_starting.resolve_left fun r => by simp [r.1] at ho
  idleHigh ho := place.released_or_starting.resolve_left fun r => by simp [r.2] at ho
  low hp hh := by
    cases place with
    | startLow _ _ _ low => exact ⟨(low hh).1, (low hh).2.1⟩
    | _ => simp_all [Phase.waiting]
  lowHeld hp hh := by
    cases place with
    | startLow _ _ _ low => exact (low hh).2.2
    | _ => simp_all [Phase.waiting]
  high hp := by
    cases place with
    | startHigh _ _ drives _ high => exact ⟨drives, high⟩
    | _ => simp_all [Phase.waiting]
  held n hn := by
    cases place with
    | waiting phase => rw [(Phase.kind_of_waiting phase).2.2] at hn; cases hn
    | _ => simp_all [Phase.longestHold]
  waits hw := by
    cases place with
    | waiting _ _ _ waits => exact waits
    | _ => simp_all [Phase.waiting]
  bits hb := by
    cases place with
    | waiting _ _ _ _ bits => exact bits hb
    | _ => simp_all
  allBits hp := by
    cases place with
    | check _ _ _ allBits => exact allBits
    | _ => simp_all [Phase.waiting]

/-- All of the invariant but its clause about the response port. -/
def State.Kept (t : State) : Prop := t.Sane ∧ t.AtPhase

theorem State.Inv.sane {s : State} (h : s.Inv) : s.Sane := ⟨h.params, h.handles, h.slots, h.noTimeout⟩

theorem State.Inv.released {s : State} (h : s.Inv) (hp : s.phase.starting = false) : s.Released :=
  ⟨Bool.eq_false_iff.mpr fun ho => by simp [h.drives ho] at hp,
    Bool.eq_true_of_not_eq_false fun ho => by simp [h.idleHigh ho] at hp⟩

/-- Inside ACQUIRE the command works on a live slot whose window READ has opened. -/
theorem State.Inv.acquires {s : State} (h : s.Inv) (ha : s.phase.acquiring = true) : s.WorksOnLive true :=
  ha ▸ h.working (Phase.working_of_acquiring ha)

/-! ## The slots the block writes are sound -/

theorem Slot.created_sound (c : Slot) (pin : Byte) : (c.created .type11 pin).Sound := ⟨fun _ => rfl, nofun⟩

theorem Slot.destroyed_sound (c : Slot) : c.destroyed.Sound := ⟨nofun, nofun⟩

theorem Slot.Sound.attempted {c : Slot} (h : c.Sound) (t : Time) : (c.attempted t).Sound := ⟨h.type11, fun _ _ => rfl⟩

theorem Slot.Sound.stored {c : Slot} (h : c.Sound) (ht : c.tsv = true) (rd : Word) : (c.stored rd).Sound :=
  ⟨h.type11, fun _ _ => ht⟩

theorem Sane.set {p : Params} {l : List Slot} {st : Status} (h : Sane p l st) {c : Slot} (hc : c.Sound) (k : Nat) :
    Sane p (l.set k c) st where
  params := h.params
  handles := by simpa using h.handles
  slots d hd := (List.mem_or_eq_of_mem_set hd).elim (h.slots d) (· ▸ hc)
  noTimeout := h.noTimeout

theorem State.Sane.sound {s : State} (h : s.Sane) {k : Nat} {c : Slot} (hc : s.slots[k]? = some c) : c.Sound :=
  h.slots c (List.mem_of_getElem? hc)

/-! ## Every instruction keeps the invariant -/

theorem State.respond_kept {s : State} {r : Response} (sane : s.Sane) (rel : s.Released) (hr : r.status ≠ .timeout) :
    (s.respond r).Kept :=
  ⟨⟨sane.params, sane.handles, sane.slots, hr⟩, .respond rfl rel⟩

theorem State.readSlot_kept {s : State} {c : Slot} (sane : s.Sane) (rel : s.Released)
    (hc : s.slots[s.h.toNat]? = some c) (ha : c.alloc = true) : (s.readSlot c).Kept := by
  obtain ⟨-, -, h⟩ | ⟨-, -, h⟩ | ⟨-, h⟩ := s.readSlot_cases c <;> rw [h]
  · exact respond_kept sane rel nofun
  · exact respond_kept sane rel nofun
  · have hk : s.h.toNat < s.slots.length := (List.getElem?_eq_some_iff.mp hc).1
    exact ⟨sane.set ((sane.sound hc).attempted s.t) _,
      .startLow rfl ⟨c.attempted s.t, List.getElem?_set_self hk, ha, fun _ => rfl⟩ le_rfl fun hne => absurd rfl hne⟩

theorem State.readFrom_kept {s : State} {c : Slot} (sane : s.Sane) (rel : s.Released)
    (hc : s.slots[s.h.toNat]? = some c) (ha : c.alloc = true) : (s.readFrom c).Kept := by
  obtain ⟨hb, h⟩ | ⟨-, h⟩ := s.readFrom_cases c <;> rw [h]
  · exact ⟨sane, .settle rfl ⟨c, hc, ha, nofun⟩ rel (settleHold_le hb)⟩
  · exact readSlot_kept (s := s.readNow) sane rel hc ha

theorem execCreate_kept {cp : Bool} {var : Variant} {pin : Nat} {s t : State} (sane : s.Sane) (rel : s.Released)
    (h : execCreate cp var pin s = .next t) : t.Kept := by
  obtain ⟨-, rfl⟩ | ⟨-, -, -, rfl⟩ | ⟨-, -, k, c, -, rfl⟩ := execCreate_next h
  · exact s.respond_kept sane rel nofun
  · exact s.respond_kept sane rel nofun
  · exact State.respond_kept (sane.set (c.created_sound _) k) rel nofun

theorem execDestroy_kept {hp : Bool} {n : Nat} {s t : State} (sane : s.Sane) (rel : s.Released)
    (h : execDestroy hp n s = .next t) : t.Kept := by
  obtain ⟨-, c, -, -, rfl⟩ := execDestroy_next h
  exact State.respond_kept (sane.set c.destroyed_sound _) rel nofun

theorem execRead_kept {hp dp : Bool} {n : Nat} {s t : State} (sane : s.Sane) (rel : s.Released)
    (h : execRead hp dp n s = .next t) : t.Kept := by
  obtain ⟨-, rfl⟩ | ⟨-, -, c, hc, ha, rfl⟩ := execRead_next h
  · exact s.respond_kept sane rel nofun
  · exact State.readFrom_kept sane rel hc ha

theorem execPhaseIdle_kept {s t : State} (sane : s.Sane) (rel : s.Released) (hp : s.phase = .idle)
    (h : execPhaseIdle s = .next t) : t.Kept := by
  have accepted : (s.accept s.inp.cmdWord).Sane := sane
  obtain ⟨-, e⟩ | ⟨-, ⟨_, _, _, -, e⟩ | ⟨_, _, _, -, e⟩ | ⟨_, _, -, e⟩ | ⟨-, e⟩⟩ := execPhaseIdle_cases s <;> rw [e] at h
  · cases h; exact ⟨sane, .idle hp rel⟩
  · exact execCreate_kept accepted rel h
  · exact execRead_kept accepted rel h
  · exact execDestroy_kept accepted rel h
  · cases h; exact State.respond_kept accepted rel nofun

theorem execPhaseSettle_kept {s t : State} (inv : s.Inv) (hp : s.phase = .settle) (h : execPhaseSettle s = .next t) :
    t.Kept := by
  have rel : s.Released := inv.released (by rw [hp]; rfl)
  obtain ⟨c, hc, ha, -⟩ := inv.working (by rw [hp]; rfl)
  obtain ⟨hh, rfl⟩ | ⟨-, c', hc', rfl⟩ := execPhaseSettle_next h
  · have held : s.holdc.toNat ≤ s.params.tSettle.toNat := inv.held _ (by rw [hp]; rfl)
    exact ⟨inv.sane, .settle hp ⟨c, hc, ha, nofun⟩ rel
      ((holdc_sub_one_toNat hh).le.trans ((Nat.sub_le _ _).trans held))⟩
  · obtain rfl : c = c' := Option.some.inj (hc.symm.trans hc')
    exact State.readSlot_kept (s := s.readNow) inv.sane rel hc ha

/-! The start signal -/

theorem State.enterStartHigh_kept {s : State} (sane : s.Sane) (works : s.WorksOnLive true) (ho : s.pinOe = true) :
    s.enterStartHigh.Kept :=
  ⟨sane, .startHigh rfl works ho le_rfl fun hne => absurd rfl hne⟩

theorem State.startHighTick_kept {s : State} (sane : s.Sane) (works : s.WorksOnLive true) (hp : s.phase = .startHigh)
    (ho : s.pinOe = true) (hv : s.pinOut = true) (held : s.holdc.toNat ≤ s.params.tStartHigh.toNat) :
    s.startHighTick.Kept := by
  obtain ⟨-, h⟩ | ⟨hh, h⟩ := s.startHighTick_cases <;> rw [h]
  · exact ⟨sane, .waiting rfl works ⟨rfl, hv⟩ ⟨rfl, rfl, Nat.zero_le _⟩ nofun⟩
  · exact ⟨sane, .startHigh hp works ho ((holdc_sub_one_toNat hh).le.trans ((Nat.sub_le _ _).trans held)) fun _ => hv⟩

theorem State.startLowTick_kept {s : State} (sane : s.Sane) (works : s.WorksOnLive true) (hp : s.phase = .startLow)
    (ho : s.pinOe = true) (hv : s.pinOut = false) (held : s.holdc.toNat ≤ s.params.tStartLow.toNat) :
    s.startLowTick.Kept := by
  obtain ⟨-, h⟩ | ⟨hh, h⟩ := s.startLowTick_cases <;> rw [h]
  · exact s.enterStartHigh_kept sane works ho
  · have left : (s.holdc - 1#20).toNat = s.holdc.toNat - 1 :=
      holdc_sub_one_toNat fun h0 => by simp [h0] at hh
    refine ⟨sane, .startLow hp works (left.le.trans ((Nat.sub_le _ _).trans held)) fun _ => ⟨ho, hv, fun h0 => ?_⟩⟩
    have : (s.holdc - 1#20).toNat = 0 := congrArg BitVec.toNat h0
    omega

theorem execPhaseStartHigh_kept {s t : State} (inv : s.Inv) (hp : s.phase = .startHigh)
    (h : execPhaseStartHigh s = .next t) : t.Kept := by
  have works : s.WorksOnLive true := inv.acquires (by rw [hp]; rfl)
  have held : s.holdc.toNat ≤ s.params.tStartHigh.toNat := inv.held _ (by rw [hp]; rfl)
  obtain ⟨ho, hv⟩ := inv.high hp
  obtain ⟨-, e⟩ | ⟨hh, e⟩ := execPhaseStartHigh_cases s <;> rw [e] at h <;> cases h
  · exact State.startHighTick_kept (s := s.driveHigh) inv.sane works hp ho rfl held
  · exact s.startHighTick_kept inv.sane works hp ho (hv hh) held

theorem execPhaseStartLow_kept {s t : State} (inv : s.Inv) (hp : s.phase = .startLow)
    (h : execPhaseStartLow s = .next t) : t.Kept := by
  have works : s.WorksOnLive true := inv.acquires (by rw [hp]; rfl)
  have held : s.holdc.toNat ≤ s.params.tStartLow.toNat := inv.held _ (by rw [hp]; rfl)
  obtain ⟨c, -, ⟨-, -, rfl⟩ | ⟨hh, rfl⟩⟩ := execPhaseStartLow_next h
  · obtain ⟨-, e⟩ | ⟨-, e⟩ := s.startLowFirst_cases c <;> rw [e]
    · exact State.startHighTick_kept (s := (s.driveLow c).enterStartHigh.driveHigh) inv.sane works rfl rfl rfl le_rfl
    · exact State.startLowTick_kept (s := s.driveLow c) inv.sane works hp rfl rfl held
  · obtain ⟨ho, hv⟩ := inv.low hp hh
    exact s.startLowTick_kept inv.sane works hp ho hv held

/-! The sampling loop -/

/-- A tick of a WAIT keeps the invariant if what follows the WAIT's end does. -/
theorem State.waitTick_kept {f : State → Count → State} {s : State} (inv : s.Inv) (hw : s.phase.waiting = true)
    (hf : s.Released → s.WorksOnLive true → (f s.sample s.cnt).Kept) : (s.waitTick f).Kept := by
  obtain ⟨acquiring, quiet, -⟩ := Phase.kind_of_waiting hw
  have rel : s.Released := inv.released quiet
  have works : s.WorksOnLive true := inv.acquires acquiring
  obtain ⟨he, hb, hc⟩ := inv.waits hw
  obtain ⟨-, hne, h⟩ | ⟨-, h⟩ | ⟨-, -, h⟩ := s.waitTick_cases f <;> rw [h]
  · exact ⟨inv.sane, .waiting hw works rel
      ⟨he, hb, add_one_le_of_lt (BitVec.lt_of_le_ne hc (hb ▸ hne))⟩ inv.bits⟩
  · exact hf rel works
  · exact State.respond_kept (s := s.sample.discardFrame) inv.sane rel nofun

theorem State.bitLoop_kept {s : State} (sane : s.Sane) (rel : s.Released) (works : s.WorksOnLive true)
    (hi : s.biti ≤ s.params.nBits) : s.bitLoop.Kept := by
  obtain ⟨hm, h⟩ | ⟨hm, h⟩ := s.bitLoop_cases <;> rw [h]
  · exact ⟨sane, .waiting rfl works rel ⟨rfl, rfl, Nat.zero_le _⟩ fun _ => moreBits_iff.mp hm⟩
  · have last : ¬ s.biti < s.params.nBits := fun hlt => by rw [moreBits_iff.mpr hlt] at hm; cases hm
    exact ⟨sane, .check rfl works rel (BitVec.le_antisymm hi (BitVec.not_lt.mp last))⟩

theorem execPhaseCheck_kept {s t : State} (inv : s.Inv) (hp : s.phase = .check) (h : execPhaseCheck s = .next t) :
    t.Kept := by
  have rel : s.Released := inv.released (by rw [hp]; rfl)
  obtain ⟨c, hc, -, ht⟩ := inv.working (by rw [hp]; rfl)
  obtain ⟨-, c', hc', rfl⟩ | ⟨-, rfl⟩ := execPhaseCheck_next h
  · obtain rfl : c = c' := Option.some.inj (hc.symm.trans hc')
    have opened : c.tsv = true := ht (by rw [hp]; rfl)
    exact State.respond_kept (inv.sane.set ((inv.sane.sound hc).stored opened s.frame.build) _) rel nofun
  · exact State.respond_kept (s := s.discardFrame) inv.sane rel nofun

theorem execPhaseRespond_kept {s t : State} (inv : s.Inv) (hp : s.phase = .respond) (h : execPhaseRespond s = .next t) :
    t.Kept := by
  have rel : s.Released := inv.released (by rw [hp]; rfl)
  obtain ⟨-, e⟩ | ⟨-, e⟩ := execPhaseRespond_cases s <;> rw [e] at h <;> cases h
  · exact ⟨inv.sane, .idle rfl rel⟩
  · exact ⟨inv.sane, .respond hp rel⟩

/-- Every phase's instruction keeps what the invariant says of the registers and the slots. -/
theorem exec_kept {s t : State} (inv : s.Inv) (h : exec s.phase.instr s = .next t) : t.Kept := by
  cases hp : s.phase with rw [hp] at h
  | idle => exact execPhaseIdle_kept inv.sane (inv.released (by rw [hp]; rfl)) hp h
  | settle => exact execPhaseSettle_kept inv hp h
  | startLow => exact execPhaseStartLow_kept inv hp h
  | startHigh => exact execPhaseStartHigh_kept inv hp h
  | check => exact execPhaseCheck_kept inv hp h
  | respond => exact execPhaseRespond_kept inv hp h
  | ackLow =>
    cases h
    exact State.waitTick_kept inv (by rw [hp]; rfl) fun rel works =>
      ⟨inv.sane, .waiting rfl works rel ⟨rfl, rfl, Nat.zero_le _⟩ nofun⟩
  | ackHigh =>
    cases h
    exact State.waitTick_kept inv (by rw [hp]; rfl) fun rel works =>
      State.bitLoop_kept (s := { s.sample with biti := 0#6 }) inv.sane rel works (Nat.zero_le _)
  | bitLow =>
    cases h
    exact State.waitTick_kept inv (by rw [hp]; rfl) fun rel works =>
      ⟨inv.sane, .waiting rfl works rel ⟨rfl, rfl, Nat.zero_le _⟩ fun _ => inv.bits (.inl hp)⟩
  | bitHigh =>
    cases h
    exact State.waitTick_kept inv (by rw [hp]; rfl) fun rel works =>
      State.bitLoop_kept (s := { s.sample with frame := _, biti := s.biti + 1#6 }) inv.sane rel works
        (add_one_le_of_lt (inv.bits (.inr hp)))

/-! ## What an instruction can do to the output registers and the handle context file -/

/-- PIN_SEL, PIN_OE and PIN_OUT (spec/10_state.md R21). -/
def State.pinRegs (s : State) : Byte × Bool × Level := (s.pinSel, s.pinOe, s.pinOut)

/-- RSP_VALID, RSP_STATUS, RSP_HANDLE and RSP_READING (spec/10_state.md R22). -/
def State.responseRegs (s : State) : Bool × BitVec 3 × Byte × Word :=
  (s.rspValid, s.rspStatus, s.rspHandle, s.rspReading)

/-- `t` shows what `s` does on the pin ports and the response port. -/
def State.SamePorts (s t : State) : Prop := t.pinRegs = s.pinRegs ∧ t.responseRegs = s.responseRegs

/-- What a command writes into a slot: CREATE into a free one, DESTROY, READ before its attempt. -/
inductive Slot.CommandWrite (c : Slot) : Slot → Prop
  | created (free : c.alloc = false) (var : Variant) (pin : Byte) : c.CommandWrite (c.created var pin)
  | destroyed : c.CommandWrite c.destroyed
  | attempted (t : Time) : c.CommandWrite (c.attempted t)

/-- The slots of `t` are those of `s`, but for one write of a command into the slot H names. -/
def State.CommandWrites (s t : State) : Prop :=
  t.slots = s.slots ∨
    ∃ k c d, s.slots[k]? = some c ∧ t.slots = s.slots.set k d ∧ (k < 256 → t.h.toNat = k) ∧ c.CommandWrite d

/-- The slot H names takes the Reading of the frame that passed CHECK. -/
def State.StoresReading (s t : State) : Prop :=
  s.frame.checksumOk = true ∧ t.h = s.h ∧
    ∃ c, s.slots[s.h.toNat]? = some c ∧ t.slots = s.slots.set s.h.toNat (c.stored s.frame.build)

/-- What a command, a tick of SETTLE or a sample can do: the ports stay, a slot may be written. -/
def State.CommandEffect (s t : State) : Prop := s.SamePorts t ∧ s.CommandWrites t

/-- What the start signal can do: the response port and the slots stay. -/
def State.StartEffect (s t : State) : Prop := t.responseRegs = s.responseRegs ∧ t.slots = s.slots

/-- All that instruction `i` can do to the registers of the output ports and to the slots. -/
inductive Effect (i : Instr) (s t : State) : Prop
  | command (effect : s.CommandEffect t)
  | stored (check : i = .phaseCheck) (ports : s.SamePorts t) (reading : s.StoresReading t)
  | started (start : i = .phaseStartLow ∨ i = .phaseStartHigh) (effect : s.StartEffect t)
  | responded (respond : i = .phaseRespond) (pins : t.pinRegs = s.pinRegs) (slots : t.slots = s.slots)

theorem State.readSlot_effect {s : State} {c : Slot} (hc : s.slots[s.h.toNat]? = some c) :
    s.CommandEffect (s.readSlot c) := by
  obtain ⟨-, -, h⟩ | ⟨-, -, h⟩ | ⟨-, h⟩ := s.readSlot_cases c <;> rw [h]
  · exact ⟨⟨rfl, rfl⟩, .inl rfl⟩
  · exact ⟨⟨rfl, rfl⟩, .inl rfl⟩
  · exact ⟨⟨rfl, rfl⟩, .inr ⟨_, c, _, hc, rfl, fun _ => rfl, .attempted s.t⟩⟩

theorem State.readFrom_effect {s : State} {c : Slot} (hc : s.slots[s.h.toNat]? = some c) :
    s.CommandEffect (s.readFrom c) := by
  obtain ⟨-, h⟩ | ⟨-, h⟩ := s.readFrom_cases c <;> rw [h]
  · exact ⟨⟨rfl, rfl⟩, .inl rfl⟩
  · exact State.readSlot_effect (s := s.readNow) hc

theorem execCreate_effect {cp : Bool} {var : Variant} {pin : Nat} {s t : State}
    (h : execCreate cp var pin s = .next t) : s.CommandEffect t := by
  obtain ⟨-, rfl⟩ | ⟨-, -, -, rfl⟩ | ⟨-, -, k, c, hf, rfl⟩ := execCreate_next h
  · exact ⟨⟨rfl, rfl⟩, .inl rfl⟩
  · exact ⟨⟨rfl, rfl⟩, .inl rfl⟩
  · obtain ⟨hc, free, -⟩ := firstFree_eq_some.mp hf
    exact ⟨⟨rfl, rfl⟩, .inr ⟨k, c, _, hc, rfl, fun hk => Nat.mod_eq_of_lt hk, .created free _ _⟩⟩

theorem execDestroy_effect {hp : Bool} {n : Nat} {s t : State} (h : execDestroy hp n s = .next t) :
    s.CommandEffect t := by
  obtain ⟨-, c, hc, -, rfl⟩ := execDestroy_next h
  exact ⟨⟨rfl, rfl⟩, .inr ⟨_, c, _, hc, rfl, fun _ => rfl, .destroyed⟩⟩

theorem execRead_effect {hp dp : Bool} {n : Nat} {s t : State} (h : execRead hp dp n s = .next t) :
    s.CommandEffect t := by
  obtain ⟨-, rfl⟩ | ⟨-, -, c, hc, -, rfl⟩ := execRead_next h
  · exact ⟨⟨rfl, rfl⟩, .inl rfl⟩
  · exact State.readFrom_effect (s := { s with h := BitVec.ofNat 8 n }) hc

theorem execPhaseIdle_effect {s t : State} (h : execPhaseIdle s = .next t) : s.CommandEffect t := by
  obtain ⟨-, e⟩ | ⟨-, ⟨_, _, _, -, e⟩ | ⟨_, _, _, -, e⟩ | ⟨_, _, -, e⟩ | ⟨-, e⟩⟩ := execPhaseIdle_cases s <;> rw [e] at h
  · cases h; exact ⟨⟨rfl, rfl⟩, .inl rfl⟩
  · exact execCreate_effect (s := s.accept s.inp.cmdWord) h
  · exact execRead_effect (s := s.accept s.inp.cmdWord) h
  · exact execDestroy_effect (s := s.accept s.inp.cmdWord) h
  · cases h; exact ⟨⟨rfl, rfl⟩, .inl rfl⟩

theorem execPhaseSettle_effect {s t : State} (h : execPhaseSettle s = .next t) : s.CommandEffect t := by
  obtain ⟨-, rfl⟩ | ⟨-, c, hc, rfl⟩ := execPhaseSettle_next h
  · exact ⟨⟨rfl, rfl⟩, .inl rfl⟩
  · exact State.readSlot_effect (s := s.readNow) hc

theorem State.startHighTick_effect (s : State) : s.StartEffect s.startHighTick := by
  obtain ⟨-, h⟩ | ⟨-, h⟩ := s.startHighTick_cases <;> rw [h] <;> exact ⟨rfl, rfl⟩

theorem State.startLowTick_effect (s : State) : s.StartEffect s.startLowTick := by
  obtain ⟨-, h⟩ | ⟨-, h⟩ := s.startLowTick_cases <;> rw [h] <;> exact ⟨rfl, rfl⟩

theorem execPhaseStartHigh_effect {s t : State} (h : execPhaseStartHigh s = .next t) : s.StartEffect t := by
  obtain ⟨-, e⟩ | ⟨-, e⟩ := execPhaseStartHigh_cases s <;> cases e.symm.trans h
  · exact s.driveHigh.startHighTick_effect
  · exact s.startHighTick_effect

theorem execPhaseStartLow_effect {s t : State} (h : execPhaseStartLow s = .next t) : s.StartEffect t := by
  obtain ⟨c, -, ⟨-, -, rfl⟩ | ⟨-, rfl⟩⟩ := execPhaseStartLow_next h
  · obtain ⟨-, e⟩ | ⟨-, e⟩ := s.startLowFirst_cases c <;> rw [e]
    · exact (s.driveLow c).enterStartHigh.driveHigh.startHighTick_effect
    · exact (s.driveLow c).startLowTick_effect
  · exact s.startLowTick_effect

theorem State.bitLoop_effect (s : State) : s.CommandEffect s.bitLoop := by
  obtain ⟨-, h⟩ | ⟨-, h⟩ := s.bitLoop_cases <;> rw [h] <;> exact ⟨⟨rfl, rfl⟩, .inl rfl⟩

theorem State.waitTick_effect {f : State → Count → State} (s : State) (hf : s.sample.CommandEffect (f s.sample s.cnt)) :
    s.CommandEffect (s.waitTick f) := by
  obtain ⟨-, -, h⟩ | ⟨-, h⟩ | ⟨-, -, h⟩ := s.waitTick_cases f <;> rw [h]
  · exact ⟨⟨rfl, rfl⟩, .inl rfl⟩
  · exact hf
  · exact ⟨⟨rfl, rfl⟩, .inl rfl⟩

theorem exec_effect {i : Instr} {s t : State} (h : exec i s = .next t) : Effect i s t := by
  cases i with
  | create => exact .command (execCreate_effect h)
  | read => exact .command (execRead_effect h)
  | destroy => exact .command (execDestroy_effect h)
  | phaseIdle => exact .command (execPhaseIdle_effect h)
  | phaseSettle => exact .command (execPhaseSettle_effect h)
  | phaseStartLow => exact .started (.inl rfl) (execPhaseStartLow_effect h)
  | phaseStartHigh => exact .started (.inr rfl) (execPhaseStartHigh_effect h)
  | phaseAckLow | phaseBitLow => cases h; exact .command (s.waitTick_effect ⟨⟨rfl, rfl⟩, .inl rfl⟩)
  | phaseAckHigh => cases h; exact .command (s.waitTick_effect (State.bitLoop_effect { s.sample with biti := 0#6 }))
  | phaseBitHigh =>
    cases h
    exact .command (s.waitTick_effect (State.bitLoop_effect { s.sample with frame := _, biti := s.biti + 1#6 }))
  | phaseCheck =>
    obtain ⟨hk, c, hc, rfl⟩ | ⟨-, rfl⟩ := execPhaseCheck_next h
    · exact .stored rfl ⟨rfl, rfl⟩ ⟨hk, rfl, c, hc, rfl⟩
    · exact .command ⟨⟨rfl, rfl⟩, .inl rfl⟩
  | phaseRespond =>
    obtain ⟨-, e⟩ | ⟨-, e⟩ := execPhaseRespond_cases s <;> cases e.symm.trans h <;> exact .responded rfl rfl rfl

/-- Only the start signal writes the pin registers (spec/10_state.md R21). -/
theorem exec_pinRegs {i : Instr} {s t : State} (h : exec i s = .next t) (hl : i ≠ .phaseStartLow)
    (hh : i ≠ .phaseStartHigh) : t.pinRegs = s.pinRegs := by
  cases exec_effect h with
  | command effect => exact effect.1.1
  | stored _ ports => exact ports.1
  | started start => exact absurd start (not_or.mpr ⟨hl, hh⟩)
  | responded _ pins => exact pins

/-- Only RESPOND writes the response registers (spec/10_state.md R22). -/
theorem exec_responseRegs {i : Instr} {s t : State} (h : exec i s = .next t) (hr : i ≠ .phaseRespond) :
    t.responseRegs = s.responseRegs := by
  cases exec_effect h with
  | command effect => exact effect.1.2
  | stored _ ports => exact ports.2
  | started _ effect => exact effect.1
  | responded respond => exact absurd respond hr

/-- Only a command and a passing CHECK write a slot. -/
theorem exec_slots {i : Instr} {s t : State} (h : exec i s = .next t) :
    s.CommandWrites t ∨ (i = .phaseCheck ∧ s.StoresReading t) := by
  cases exec_effect h with
  | command effect => exact .inl effect.2
  | stored check _ reading => exact .inr ⟨check, reading⟩
  | started _ effect => exact .inl (.inl effect.2)
  | responded _ _ slots => exact .inl (.inl slots)

theorem State.responseRegs_eq_iff {s t : State} :
    t.responseRegs = s.responseRegs ↔
      t.rspValid = s.rspValid ∧ t.rspStatus = s.rspStatus ∧ t.rspHandle = s.rspHandle ∧ t.rspReading = s.rspReading := by
  simp [State.responseRegs]

theorem State.pinRegs_eq_iff {s t : State} :
    t.pinRegs = s.pinRegs ↔ t.pinSel = s.pinSel ∧ t.pinOe = s.pinOe ∧ t.pinOut = s.pinOut := by
  simp [State.pinRegs]

/-- Settles O14: of all instructions only RESPOND writes the response registers, and only when it delivers. -/
theorem responseRegistersChangeOnlyInRespond : Obligations.ResponseRegistersChangeOnlyInRespond := by
  unfold Obligations.ResponseRegistersChangeOnlyInRespond
  intro s t hr h
  obtain ⟨u, hu, rfl⟩ := step_exec hr h
  by_cases hp : s.phase = .respond
  · rw [hp] at hu
    obtain ⟨ho, e⟩ | ⟨ho, e⟩ := execPhaseRespond_cases s.beginTick <;> cases e.symm.trans hu
    · have ho : s.ovhLeft = 0 := ho
      simp +contextual [hp, ho]
    · have ho : s.ovhLeft ≠ 0 := ho
      simp [hp, ho]
  · have kept := State.responseRegs_eq_iff.mp (exec_responseRegs hu fun e => hp (Phase.instr_injective e))
    simpa [hp] using kept

/-! ## The tick keeps the invariant -/

theorem State.Inv.beginTick {s : State} (h : s.Inv) : s.beginTick.Inv := { h with delivered := nofun }

theorem State.Inv.nextTick {s : State} (h : s.Inv) : s.nextTick.Inv := by
  obtain ⟨i, l, n, e⟩ := s.nextTick_eq
  rw [e]
  exact { h with }

theorem State.blockReset_inv {s : State} (h : s.Inv) : s.blockReset.Inv := by
  refine State.inv_of_atPhase ⟨h.params, ?_, fun c hc => ?_, h.noTimeout⟩ (.idle rfl ⟨rfl, rfl⟩) nofun
  · rw [blockReset_slots, resetSlots_length]
    exact h.handles
  · have free := resetSlots_free _ _ _ c hc
    exact ⟨fun ha => by simp [free] at ha, fun ha => by simp [free] at ha⟩

theorem Status.code_le_three {st : Status} (h : st ≠ .timeout) : st.code.toNat ≤ 3 := by
  cases st with
  | timeout => exact absurd rfl h
  | ok | fail | invalidArg | noMem => decide

/-- Only the delivery sets RSP_VALID, with a status of R67 and the return to IDLE. -/
theorem exec_delivered {s t : State} (inv : s.Inv) (hv : s.rspValid = false) (h : exec s.phase.instr s = .next t)
    (ht : t.rspValid = true) : t.phase = .idle ∧ t.rspStatus.toNat ≤ 3 := by
  have hp : s.phase = .respond := by
    by_contra hp
    have same := State.responseRegs_eq_iff.mp (exec_responseRegs h fun e => hp (Phase.instr_injective e))
    simp [same.1, hv] at ht
  rw [hp] at h
  obtain ⟨-, e⟩ | ⟨-, e⟩ := execPhaseRespond_cases s <;> cases e.symm.trans h
  · exact ⟨rfl, Status.code_le_three inv.noTimeout⟩
  · simp [hv] at ht

/-- Settles O39: the block reset establishes the invariant, every phase's instruction keeps it, and the changes of tick around
them touch nothing it speaks of. -/
theorem stepKeepsInvariant : Obligations.StepKeepsInvariant := by
  unfold Obligations.StepKeepsInvariant
  intro s t inv h
  obtain ⟨-, rfl⟩ | ⟨-, u, hu, rfl⟩ := step_cases h
  · exact (State.blockReset_inv inv).nextTick
  · obtain ⟨sane, place⟩ := exec_kept inv.beginTick hu
    exact (State.inv_of_atPhase sane place (exec_delivered inv.beginTick rfl hu)).nextTick

/-- Settles O43: the frame of the pin registers, and the invariant of the state the tick leaves (O39). -/
theorem pinRegistersWrittenByStartOnly : Obligations.PinRegistersWrittenByStartOnly := by
  unfold Obligations.PinRegistersWrittenByStartOnly
  refine ⟨fun i s t h hl hh => State.pinRegs_eq_iff.mp (exec_pinRegs h hl hh), fun s t inv _ h hp => ?_⟩
  exact (stepKeepsInvariant s t inv h).released (by rw [hp]; rfl)

/-! ## The output ports of a tick -/

theorem State.startLowTick_pinRegs (s : State) : s.startLowTick.pinRegs = s.pinRegs := by
  obtain ⟨-, h⟩ | ⟨-, h⟩ := s.startLowTick_cases <;> rw [h] <;> rfl

/-- START_HIGH drives the line as before while its hold lasts, and releases it in the tick after. -/
theorem State.startHighTick_pinRegs (s : State) :
    s.startHighTick.pinRegs = (s.pinSel, s.pinOe && decide (s.holdc ≠ 0#20), s.pinOut) := by
  obtain ⟨hh, h⟩ | ⟨hh, h⟩ := s.startHighTick_cases <;> simp [h, hh, State.pinRegs, State.enterAckLow]

theorem State.startLowFirst_pinRegs (s : State) (c : Slot) :
    (s.startLowFirst c).pinRegs =
      if s.params.tStartLow = 0#20 then (c.cfgPin, decide (s.params.tStartHigh ≠ 0#20), true) else (c.cfgPin, true, false) := by
  obtain ⟨hl, h⟩ | ⟨hl, h⟩ := s.startLowFirst_cases c
  · rw [h, if_pos hl]
    exact (s.driveLow c).enterStartHigh.driveHigh.startHighTick_pinRegs
  · rw [h, if_neg hl]
    exact (s.driveLow c).startLowTick_pinRegs

/-- After a tick of START_LOW the line is low, or, should T_START_LOW be 0, high for START_HIGH's hold. -/
theorem execPhaseStartLow_drives {s t : State} (inv : s.Inv) (hp : s.phase = .startLow)
    (h : execPhaseStartLow s = .next t) :
    (t.pinOe, t.pinOut) =
      if s.params.tStartLow = 0#20 then (decide (s.params.tStartHigh ≠ 0#20), true) else (true, false) := by
  obtain ⟨c, -, ⟨-, -, rfl⟩ | ⟨hh, rfl⟩⟩ := execPhaseStartLow_next h
  · have first := congrArg Prod.snd (s.startLowFirst_pinRegs c)
    rw [apply_ite Prod.snd] at first
    exact first
  · have held : s.holdc.toNat ≤ s.params.tStartLow.toNat := inv.held _ (by rw [hp]; rfl)
    have positive : s.params.tStartLow ≠ 0#20 := fun h0 => hh (BitVec.eq_of_toNat_eq (by simp_all))
    rw [if_neg positive]
    obtain ⟨ho, hv⟩ := inv.low hp hh
    exact (congrArg Prod.snd s.startLowTick_pinRegs).trans (Prod.ext ho hv)

theorem execPhaseStartHigh_drives {s t : State} (inv : s.Inv) (hp : s.phase = .startHigh)
    (h : execPhaseStartHigh s = .next t) : (t.pinOe, t.pinOut) = (decide (s.holdc ≠ 0#20), true) := by
  obtain ⟨ho, hv⟩ := inv.high hp
  obtain ⟨hh, e⟩ | ⟨hh, e⟩ := execPhaseStartHigh_cases s <;> cases e.symm.trans h
  · have tick := congrArg Prod.snd s.driveHigh.startHighTick_pinRegs
    have ho : s.driveHigh.pinOe = true := ho
    rw [ho, Bool.true_and] at tick
    exact tick
  · have tick := congrArg Prod.snd s.startHighTick_pinRegs
    rw [ho, hv hh, Bool.true_and] at tick
    exact tick

theorem outputsOf_cmdReady_iff (s t : State) :
    (outputsOf s t).cmdReady = true ↔ s.inp.rst = true ∨ s.phase = .idle := by
  simp [outputsOf, State.cmdReady]

theorem State.startLowFirst_pinSel (s : State) (c : Slot) : (s.startLowFirst c).pinSel = c.cfgPin := by
  have sel : (s.startLowFirst c).pinSel = _ := congrArg Prod.fst (s.startLowFirst_pinRegs c)
  rw [sel]
  split <;> rfl

/-- The pin ports of a tick outside the start signal are those of the state it finds. -/
theorem step_pinRegs {s t : State} (hr : s.inp.rst = false) (hp : s.phase.starting = false) (h : step s = .next t) :
    t.pinRegs = s.pinRegs := by
  obtain ⟨u, hu, rfl⟩ := step_exec hr h
  have same : u.pinRegs = s.beginTick.pinRegs :=
    exec_pinRegs hu (fun e => by rw [Phase.instr_injective (a₂ := .startLow) e] at hp; cases hp)
      (fun e => by rw [Phase.instr_injective (a₂ := .startHigh) e] at hp; cases hp)
  simpa [State.pinRegs] using same

theorem outputsOf_nextTick_pins (s u : State) :
    (outputsOf s u.nextTick).pinSel = u.pinSel ∧ (outputsOf s u.nextTick).pinOe = u.pinOe ∧
      (outputsOf s u.nextTick).pinOut = u.pinOut := by
  simp [outputsOf]

/-- Settles O55: the response port is O14's, the pin is as the tick finds it outside the start signal, and inside it as the
invariant and the two phases' own writes say. -/
theorem outputPortsFollowThePhase : Obligations.OutputPortsFollowThePhase := by
  unfold Obligations.OutputPortsFollowThePhase
  intro s t h
  refine ⟨outputsOf_cmdReady_iff s t, fun hr => ?_, fun hr => ?_, fun inv hr => ?_⟩
  · obtain ⟨-, rfl⟩ | ⟨hr', -⟩ := step_cases h
    · simp [outputsOf]
    · simp [hr] at hr'
  · obtain ⟨delivers, keeps⟩ := responseRegistersChangeOnlyInRespond s t hr h
    refine ⟨⟨fun hv => ?_, fun ⟨hp, ho⟩ => (delivers hp ho).1⟩, fun hp ho => (delivers hp ho).2⟩
    by_contra hno
    have quiet : t.rspValid = false := (keeps (not_and_or.mp hno)).1
    exact absurd (quiet.symm.trans hv) nofun
  · refine ⟨fun hp => ?_, ?_⟩
    · obtain ⟨-, oe, out⟩ := State.pinRegs_eq_iff.mp (step_pinRegs hr hp h)
      obtain ⟨ho, hv⟩ := inv.released hp
      exact ⟨oe.trans ho, out.trans hv⟩
    obtain ⟨u, hu, rfl⟩ := step_exec hr h
    obtain ⟨sel, oe, out⟩ := outputsOf_nextTick_pins s u
    rw [sel, oe, out]
    refine ⟨fun hp hh c hc => ?_, fun hp hl => ?_, fun hp hl => ?_, fun hp => ?_⟩ <;> rw [hp] at hu
    · obtain ⟨c', hc', ⟨-, -, rfl⟩ | ⟨hne, -⟩⟩ := execPhaseStartLow_next hu
      · obtain rfl : c = c' := Option.some.inj (hc.symm.trans hc')
        exact s.beginTick.startLowFirst_pinSel c
      · exact absurd hh hne
    · exact Prod.mk.inj ((execPhaseStartLow_drives inv.beginTick hp hu).trans (if_neg hl))
    · exact Prod.mk.inj ((execPhaseStartLow_drives inv.beginTick hp hu).trans (if_pos hl))
    · exact Prod.mk.inj (execPhaseStartHigh_drives (s := s.beginTick) inv.beginTick hp hu)

/-! ## The handle context file -/

/-- An instruction writes at most one slot, the one H names after it, and no live slot's configuration. -/
theorem exec_slots_set {i : Instr} {s t : State} (h : exec i s = .next t) :
    t.slots = s.slots ∨ ∃ k c d, s.slots[k]? = some c ∧ t.slots = s.slots.set k d ∧ (k < 256 → t.h.toNat = k) ∧
      (c.alloc = true → d.cfgPin = c.cfgPin ∧ d.cfgVar = c.cfgVar) := by
  obtain (same | ⟨k, c, d, hc, hs, hk, write⟩) | ⟨-, -, hh, c, hc, hs⟩ := exec_slots h
  · exact .inl same
  · refine .inr ⟨k, c, d, hc, hs, hk, fun live => ?_⟩
    cases write with
    | created free => simp [free] at live
    | destroyed | attempted => exact ⟨rfl, rfl⟩
  · exact .inr ⟨_, c, _, hc, hs, fun _ => congrArg BitVec.toNat hh, fun _ => ⟨rfl, rfl⟩⟩

/-- Settles O45: an instruction writes at most one slot, and H names it. -/
theorem instructionTouchesOnlySlotH : Obligations.InstructionTouchesOnlySlotH := by
  unfold Obligations.InstructionTouchesOnlySlotH
  intro i s t hlen h
  refine ⟨(exec_sameMachine h).slotCount, fun j hj => ?_⟩
  obtain same | ⟨k, c, d, hc, hs, hk, -⟩ := exec_slots_set h
  · rw [same]
  · have hlt : k < s.slots.length := (List.getElem?_eq_some_iff.mp hc).1
    rw [hs, List.getElem?_set_ne (hk (hlt.trans_le hlen) ▸ hj.symm)]

/-- Settles O46: only CREATE writes a configuration, and it takes a free slot. -/
theorem liveConfigurationIsImmutable : Obligations.LiveConfigurationIsImmutable := by
  unfold Obligations.LiveConfigurationIsImmutable
  intro i s t j c h hc live
  obtain same | ⟨k, c', d, hc', hs, -, config⟩ := exec_slots_set h
  · exact ⟨c, by rw [same, hc], rfl, rfl⟩
  · by_cases hj : k = j
    · subst hj
      obtain rfl : c' = c := Option.some.inj (hc'.symm.trans hc)
      exact ⟨d, by rw [hs, List.getElem?_set_self (List.getElem?_eq_some_iff.mp hc).1], config live⟩
    · exact ⟨c, by rw [hs, List.getElem?_set_ne hj, hc], rfl, rfl⟩

/-- A written slot list read back: the written slot, or one the write left alone. -/
theorem getElem?_set_cases {α : Type} {l : List α} {j k : Nat} {d e : α} (h : (l.set k e)[j]? = some d) :
    (j = k ∧ d = e) ∨ l[j]? = some d := by
  by_cases hj : k = j
  · subst hj
    have hk : k < l.length := by simpa using (List.getElem?_eq_some_iff.mp h).1
    rw [List.getElem?_set_self hk] at h
    exact .inl ⟨rfl, (Option.some.inj h).symm⟩
  · exact .inr (by rwa [List.getElem?_set_ne hj] at h)

/-- No command's write puts a Reading into the cache. -/
theorem Slot.CommandWrite.cache {c d : Slot} (h : c.CommandWrite d) :
    d.lastReading = c.lastReading ∧ (d.rvalid = true → c.rvalid = true) := by
  cases h with
  | created => exact ⟨rfl, nofun⟩
  | destroyed | attempted => exact ⟨rfl, id⟩

theorem State.CommandWrites.cache {s t : State} (h : s.CommandWrites t) {j : Nat} {c d : Slot}
    (hc : s.slots[j]? = some c) (hd : t.slots[j]? = some d) :
    d.lastReading = c.lastReading ∧ (d.rvalid = true → c.rvalid = true) := by
  have unwritten (hd : s.slots[j]? = some d) : d.lastReading = c.lastReading ∧ (d.rvalid = true → c.rvalid = true) := by
    obtain rfl : c = d := Option.some.inj (hc.symm.trans hd)
    exact ⟨rfl, id⟩
  obtain same | ⟨k, c', d', hc', hs, -, write⟩ := h
  · exact unwritten (same ▸ hd)
  · obtain ⟨rfl, rfl⟩ | hd := getElem?_set_cases (hs ▸ hd)
    · obtain rfl : c' = c := Option.some.inj (hc'.symm.trans hc)
      exact write.cache
    · exact unwritten hd

/-- Settles O47: no command writes the cache, and CHECK does where the frame passes. -/
theorem cacheChangesOnlyByPassingFrame : Obligations.CacheChangesOnlyByPassingFrame := by
  unfold Obligations.CacheChangesOnlyByPassingFrame
  intro i s t j c d h hc hd changed
  obtain writes | ⟨rfl, hk, -, c', hc', hs⟩ := exec_slots h
  · obtain ⟨reading, valid⟩ := writes.cache hc hd
    obtain hne | ⟨hcv, hdv⟩ := changed
    · exact absurd reading hne
    · simp [valid hdv] at hcv
  · obtain ⟨rfl, rfl⟩ | hd := getElem?_set_cases (hs ▸ hd)
    · exact ⟨rfl, rfl, eq_of_beq hk, rfl, rfl⟩
    · obtain rfl : c = d := Option.some.inj (hc.symm.trans hd)
      simp at changed

/-! ## What an instruction reads on the input ports -/

/-- `s` with the levels `j` on the input ports. -/
def State.withInp (s : State) (j : Inputs) : State := { s with inp := j }

/-- `f` on the next state of an outcome, if there is one. -/
def onNext (f : State → State) : Result → Result
  | .next t => .next (f t)
  | .fault r => .fault r
  | .refused r => .refused r

theorem State.withInp_nextTick (s : State) (j : Inputs) : (s.withInp j).nextTick = s.nextTick := by
  obtain h | ⟨i, l, h⟩ : s.inputs = [] ∨ ∃ i l, s.inputs = i :: l := by cases s.inputs <;> simp
  · simp [State.nextTick, State.withInp, h, State.freeInputs, State.freeAt]
  · simp [State.nextTick, State.withInp, h]

theorem afterExec_withInp (r : Result) (j : Inputs) : afterExec (onNext (·.withInp j) r) = afterExec r := by
  cases r with
  | next t => exact congrArg Host.Outcome.next (t.withInp_nextTick j)
  | fault | refused => rfl

section
variable (s : State) (j : Inputs)

theorem onNext_ite (p : Prop) [Decidable p] (f : State → State) (a b : Result) :
    onNext f (if p then a else b) = if p then onNext f a else onNext f b := by
  split <;> rfl

theorem State.withInp_ite (p : Prop) [Decidable p] (a b : State) :
    (if p then a else b : State).withInp j = if p then a.withInp j else b.withInp j := by
  split <;> rfl

theorem State.withInp_readSlot (c : Slot) : (s.withInp j).readSlot c = (s.readSlot c).withInp j := by
  simp only [State.readSlot, State.withInp_ite]
  rfl

theorem State.withInp_readNow (hn : j.now = s.inp.now) : (s.withInp j).readNow = s.readNow.withInp j := by
  simp [State.readNow, State.withInp, hn]

theorem State.withInp_startHighTick : (s.withInp j).startHighTick = s.startHighTick.withInp j := by
  simp only [State.startHighTick, State.withInp_ite]
  rfl

theorem State.withInp_startHighFirst : (s.withInp j).startHighFirst = s.startHighFirst.withInp j :=
  State.withInp_startHighTick s.driveHigh j

theorem State.withInp_startLowTick : (s.withInp j).startLowTick = s.startLowTick.withInp j := by
  simp only [State.startLowTick, State.withInp_ite]
  rfl

theorem State.withInp_startLowFirst (c : Slot) : (s.withInp j).startLowFirst c = (s.startLowFirst c).withInp j := by
  simp only [State.startLowFirst, State.withInp_ite]
  exact congr (congrArg _ (State.withInp_startHighFirst (s.driveLow c).enterStartHigh j))
    (State.withInp_startLowTick (s.driveLow c) j)

theorem State.withInp_bitLoop : (s.withInp j).bitLoop = s.bitLoop.withInp j := by
  simp only [State.bitLoop, State.withInp_ite]
  rfl

theorem State.withInp_waitTick {f : State → Count → State} (hv : j.pinIn = s.inp.pinIn)
    (hf : ∀ (u : State) (c : Count), f (u.withInp j) c = (f u c).withInp j) :
    (s.withInp j).waitTick f = (s.waitTick f).withInp j := by
  have level : (s.withInp j).pinLevel = s.pinLevel := hv
  have result : (s.withInp j).waitResult = s.waitResult := by
    rw [State.waitResult, level]
    rfl
  have sample : (s.withInp j).sample = s.sample.withInp j := by
    rw [State.sample, level]
    rfl
  simp only [State.waitTick, result, sample]
  cases s.waitResult with
  | done c => exact hf s.sample c
  | running | timeout => rfl

theorem execPhaseSettle_withInp (hn : j.now = s.inp.now) :
    execPhaseSettle (s.withInp j) = onNext (·.withInp j) (execPhaseSettle s) := by
  simp only [execPhaseSettle, onNext_ite, s.withInp_readNow j hn, State.withInp_readSlot]
  have slot : (s.withInp j).slot? (s.withInp j).h = s.slot? s.h := rfl
  rw [slot]
  cases s.slot? s.h <;> rfl

theorem execPhaseStartLow_withInp :
    execPhaseStartLow (s.withInp j) = onNext (·.withInp j) (execPhaseStartLow s) := by
  have slot : (s.withInp j).slot? (s.withInp j).h = s.slot? s.h := rfl
  simp only [execPhaseStartLow, slot, State.withInp_startLowFirst, State.withInp_startLowTick]
  cases s.slot? s.h with
  | none => rfl
  | some c => simp only [onNext_ite]; rfl

theorem execPhaseStartHigh_withInp :
    execPhaseStartHigh (s.withInp j) = onNext (·.withInp j) (execPhaseStartHigh s) := by
  simp only [execPhaseStartHigh, onNext_ite, State.withInp_startHighFirst, State.withInp_startHighTick]
  rfl

theorem execPhaseCheck_withInp :
    execPhaseCheck (s.withInp j) = onNext (·.withInp j) (execPhaseCheck s) := by
  have slot : (s.withInp j).slot? (s.withInp j).h = s.slot? s.h := rfl
  simp only [execPhaseCheck, onNext_ite, slot]
  cases s.slot? s.h <;> rfl

theorem execPhaseRespond_withInp :
    execPhaseRespond (s.withInp j) = onNext (·.withInp j) (execPhaseRespond s) := by
  simp only [execPhaseRespond, onNext_ite]
  rfl

/-- Outside IDLE an instruction reads `now` in SETTLE and `pin_in` in a WAIT, and no other input port. -/
theorem exec_phase_withInp (hp : s.phase ≠ .idle) (hn : s.phase = .settle → j.now = s.inp.now)
    (hv : s.phase.waiting = true → j.pinIn = s.inp.pinIn) :
    exec s.phase.instr (s.withInp j) = onNext (·.withInp j) (exec s.phase.instr s) := by
  cases h : s.phase with rw [h] at hp hn hv
  | idle => exact absurd rfl hp
  | settle => exact execPhaseSettle_withInp s j (hn rfl)
  | startLow => exact execPhaseStartLow_withInp s j
  | startHigh => exact execPhaseStartHigh_withInp s j
  | ackLow => exact congrArg Host.Outcome.next (s.withInp_waitTick j (hv rfl) fun _ _ => rfl)
  | ackHigh =>
    exact congrArg Host.Outcome.next
      (s.withInp_waitTick j (hv rfl) fun u _ => State.withInp_bitLoop { u with biti := 0#6 } j)
  | bitLow => exact congrArg Host.Outcome.next (s.withInp_waitTick j (hv rfl) fun _ _ => rfl)
  | bitHigh =>
    exact congrArg Host.Outcome.next
      (s.withInp_waitTick j (hv rfl) fun u _ => State.withInp_bitLoop { u with frame := _, biti := u.biti + 1#6 } j)
  | check => exact execPhaseCheck_withInp s j
  | respond => exact execPhaseRespond_withInp s j

theorem step_withInp_of_rst (hr : s.inp.rst = true) (hj : j.rst = true) : step (s.withInp j) = step s := by
  have hj : (s.withInp j).inp.rst = true := hj
  simp only [step, hr, hj, reduceIte]
  exact congrArg Host.Outcome.next (s.blockReset.withInp_nextTick j)

theorem step_withInp_of_exec (hr : s.inp.rst = false) (hj : j.rst = false)
    (h : exec s.phase.instr (s.beginTick.withInp j) = onNext (·.withInp j) (exec s.phase.instr s.beginTick)) :
    step (s.withInp j) = step s := by
  rw [step_eq_afterExec hr, step_eq_afterExec (s := s.withInp j) hj]
  exact (congrArg afterExec h).trans (afterExec_withInp _ j)

theorem step_withInp (hp : s.phase ≠ .idle) (hr : j.rst = s.inp.rst) (hn : j.now = s.inp.now) (hv : j.pinIn = s.inp.pinIn) :
    step (s.withInp j) = step s := by
  cases h : s.inp.rst with
  | true => exact step_withInp_of_rst s j h (hr.trans h)
  | false => exact step_withInp_of_exec s j h (hr.trans h) (exec_phase_withInp s.beginTick j hp (fun _ => hn) fun _ => hv)

end

/-- Settles O12: outside IDLE a tick reads no more of the input ports than `rst`, `pin_in` and `now`. -/
theorem busyStepIgnoresCommandPort : Obligations.BusyStepIgnoresCommandPort := by
  unfold Obligations.BusyStepIgnoresCommandPort
  refine ⟨fun s => by simp [State.cmdReady], fun s v w hp => ?_⟩
  exact step_withInp s { s.inp with cmdValid := v, cmdWord := w } hp rfl rfl rfl

end Sys2Proof.Machine

/-!
PROOFS of the family spec/20_memory.md: the frame the samples are stored in (R46), the oracles a tick reads (R43, R44, R56),
the line while the block drives it (R41).
-/

namespace Sys2Proof.Machine

/-! ## A pin stream, tick by tick -/

theorem State.offers_nil (s : State) : s.offers [] := by
  simp [State.offers, State.nextInputs]

/-- The first level of a pin stream is on the line in this tick, the others in the ticks to come, whatever the tick does. -/
theorem State.offers_cons {s : State} {v : Level} {l : List Level} (h : s.offers (v :: l)) :
    s.pinLevel = v ∧ s.inp.rst = false ∧ ∀ u : State, u.inputs = s.inputs → u.nextTick.offers l := by
  obtain ⟨levels, noReset⟩ := h
  simp only [State.nextInputs, List.length_cons, List.take_succ_cons, List.map_cons, List.cons.injEq] at levels
  simp only [State.nextInputs, List.length_cons, List.take_succ_cons, List.forall_mem_cons] at noReset
  refine ⟨levels.1, noReset.1, fun u hu => ?_⟩
  cases hi : s.inputs with
  | nil =>
    obtain rfl : [] = l := by simpa [hi] using levels.2
    exact State.offers_nil _
  | cons i rest =>
    rw [State.nextTick_cons u (hu.trans hi)]
    rw [hi] at levels noReset
    exact ⟨levels.2, noReset.2⟩

theorem runFor_one_of_step {s t : State} (h : step s = .next t) : runFor 1 s = some t :=
  runFor_succ_of_step h 0

theorem runFor_add_of_runFor {j k : Nat} {s t : State} (h : runFor j s = some t) : runFor (j + k) s = runFor k t := by
  rw [runFor_add, h]
  rfl

/-! ## WAIT over several ticks -/

/-- What follows a WAIT that has ended, by the WAIT's phase; of no account elsewhere (spec/41_frame_decoder.md R103 to R106). -/
def afterWait : Phase → State → Count → State
  | .ackLow, s, _ => s.enterAckHigh
  | .ackHigh, s, _ => ({ s with biti := 0#6 } : State).bitLoop
  | .bitLow, s, _ => s.enterBitHigh
  | .bitHigh, s, c => s.storeBit c
  | .idle, s, _ | .settle, s, _ | .startLow, s, _ | .startHigh, s, _ | .check, s, _ | .respond, s, _ => s

theorem exec_waiting {p : Phase} (hw : p.waiting = true) (s : State) :
    exec p.instr s = .next (s.waitTick (afterWait p)) := by
  cases p with
  | ackLow | ackHigh | bitLow | bitHigh => rfl
  | idle | settle | startLow | startHigh | check | respond => cases hw

theorem step_waiting {s : State} (hw : s.phase.waiting = true) (hr : s.inp.rst = false) :
    step s = .next (s.beginTick.waitTick (afterWait s.phase)).nextTick :=
  step_of_exec hr (exec_waiting hw s.beginTick)

/-- `t` is what `n` samples of the level `v` make of a WAIT that goes on: CNT has counted them, the trace has their events, and
besides only the ports and the draw counter have moved. -/
def State.Waited (v : Level) (n : Nat) (s t : State) : Prop :=
  ∃ valid i l d, t = { s with
    cnt := s.cnt + BitVec.ofNat 7 n, trace := List.replicate n (.get s.pinSel v) ++ s.trace,
    rspValid := valid, inp := i, inputs := l, drawn := d }

theorem State.Waited.trans {v : Level} {m n : Nat} {s t u : State} (h₁ : s.Waited v m t) (h₂ : t.Waited v n u) :
    s.Waited v (m + n) u := by
  obtain ⟨_, _, _, _, rfl⟩ := h₁
  obtain ⟨valid, i, l, d, rfl⟩ := h₂
  exact ⟨valid, i, l, d, by
    simp only [BitVec.add_assoc, BitVec.ofNat_add, ← List.append_assoc, List.replicate_append_replicate, Nat.add_comm n m]⟩

/-- The registers of the WAIT itself while it goes on. -/
theorem State.Waited.wait {v : Level} {n : Nat} {s t : State} (h : s.Waited v n t) :
    t.phase = s.phase ∧ t.exp = s.exp ∧ t.bud = s.bud ∧ t.cnt = s.cnt + BitVec.ofNat 7 n := by
  obtain ⟨_, _, _, _, rfl⟩ := h
  exact ⟨rfl, rfl, rfl, rfl⟩

/-- One sample at the expected level below the budget. -/
theorem step_waited {s : State} {v : Level} {l : List Level} (hw : s.phase.waiting = true) (he : s.exp = v)
    (hb : s.cnt ≠ s.bud) (h : s.offers (v :: l)) : ∃ t, step s = .next t ∧ t.offers l ∧ s.Waited v 1 t := by
  obtain ⟨rfl, hr, later⟩ := State.offers_cons h
  have running := State.waitTick_running (s := s.beginTick) (afterWait s.phase) he.symm hb
  refine ⟨_, step_waiting hw hr, later _ (by rw [running]; rfl), ?_⟩
  obtain ⟨i, inputs, d, e⟩ := (s.beginTick.waitTick (afterWait s.phase)).nextTick_eq
  rw [e, running]
  exact ⟨false, i, inputs, d, rfl⟩

/-- WAIT goes on while the line is at the expected level and CNT has not reached the budget (spec/40_signal_waiter.md R90). -/
theorem runFor_waited {n : Nat} {s : State} {v : Level} {l : List Level} (hw : s.phase.waiting = true) (he : s.exp = v)
    (hb : s.cnt.toNat + n ≤ s.bud.toNat) (h : s.offers (List.replicate n v ++ l)) :
    ∃ t, runFor n s = some t ∧ t.offers l ∧ s.Waited v n t := by
  induction n generalizing l with
  | zero => exact ⟨s, rfl, h, s.rspValid, s.inp, s.inputs, s.drawn, by simp⟩
  | succ n ih =>
    rw [List.replicate_succ', List.append_assoc] at h
    obtain ⟨t, ht, later, waited⟩ := ih (by omega) h
    obtain ⟨phase, exp, bud, cnt⟩ := waited.wait
    have below : t.cnt ≠ t.bud := by
      rw [cnt, bud]
      intro e
      rw [← e] at hb
      simp at hb
      omega
    obtain ⟨u, hu, rest, one⟩ := step_waited (phase ▸ hw) (exp.trans he) below later
    exact ⟨u, (runFor_add_of_runFor ht).trans (runFor_one_of_step hu), rest, waited.trans one⟩

/-- The registers an acquisition works with, but those of its WAITs. -/
structure State.SameAcquisition (s t : State) : Prop where
  params : t.params = s.params
  slots : t.slots = s.slots
  h : t.h = s.h
  frame : t.frame = s.frame
  biti : t.biti = s.biti

theorem State.SameAcquisition.trans {s t u : State} (h₁ : s.SameAcquisition t) (h₂ : t.SameAcquisition u) :
    s.SameAcquisition u :=
  ⟨h₂.params.trans h₁.params, h₂.slots.trans h₁.slots, h₂.h.trans h₁.h, h₂.frame.trans h₁.frame, h₂.biti.trans h₁.biti⟩

theorem State.startWait_sameAcquisition (s : State) (p : Phase) (e : Level) (b : Count) :
    s.SameAcquisition (s.startWait p e b).nextTick := by
  constructor <;> simp

/-- A WAIT from count 0 ends, within its budget, on the first sample of the other level, with the number of samples before it
as its count (spec/40_signal_waiter.md R90). -/
theorem runFor_wait {n : Nat} {s : State} {v : Level} {l : List Level} (hw : s.phase.waiting = true) (he : s.exp = v)
    (hc : s.cnt = 0#7) (hb : n ≤ s.bud.toNat) (h : s.offers (List.replicate n v ++ (!v) :: l)) :
    ∃ u, runFor (n + 1) s = some (afterWait s.phase u (BitVec.ofNat 7 n)).nextTick ∧ s.SameAcquisition u ∧
      ∀ w : State, w.inputs = u.inputs → w.nextTick.offers l := by
  obtain ⟨t, ht, later, waited⟩ := runFor_waited hw he (by simpa [hc] using hb) h
  obtain ⟨phase, exp, -, cnt⟩ := waited.wait
  obtain ⟨level, hr, rest⟩ := State.offers_cons later
  have changed : t.beginTick.pinLevel ≠ t.beginTick.exp := by
    change t.pinLevel ≠ t.exp
    rw [level, exp, he]
    exact Bool.not_ne_self v
  have hstep := step_waiting (phase ▸ hw) hr
  rw [State.waitTick_done _ changed, phase, State.beginTick_cnt, cnt, hc, BitVec.zero_add] at hstep
  refine ⟨t.beginTick.sample, (runFor_add_of_runFor ht).trans (runFor_one_of_step hstep), ?_, rest⟩
  obtain ⟨_, _, _, _, rfl⟩ := waited
  exact ⟨rfl, rfl, rfl, rfl, rfl⟩

/-- Both WAITs of a handshake or of one bit: the phase `q` of the second is left with the length of its high phase. -/
theorem runFor_symbol {s : State} {p q : Phase} {low high : Nat} {l : List Level} (hp : s.phase = p) (hpw : p.waiting = true)
    (he : s.exp = false) (hc : s.cnt = 0#7) (hlow : low ≤ s.bud.toNat)
    (hq : ∀ u c, afterWait p u c = u.startWait q true (q.budget u.params)) (hqw : q.waiting = true)
    (hhigh : high ≤ (q.budget s.params).toNat) (h : s.offers (symbol low high ++ l)) :
    ∃ u, runFor (symbol low high).length s = some (afterWait q u (BitVec.ofNat 7 high)).nextTick ∧ s.SameAcquisition u ∧
      ∀ w : State, w.inputs = u.inputs → w.nextTick.offers l := by
  subst hp
  have hs : symbol low high ++ l = List.replicate low false ++ true :: (List.replicate high true ++ false :: l) := by
    simp [symbol]
  obtain ⟨u, hu, same, later⟩ := runFor_wait hpw he hc hlow (hs ▸ h)
  rw [hq] at hu
  obtain ⟨w, hw, same', rest⟩ := runFor_wait (n := high) (v := true) (l := l)
    (s := (u.startWait q true (q.budget u.params)).nextTick) (by simpa using hqw) (by simp) (by simp)
    (by simpa [same.params] using hhigh) (later _ rfl)
  have hlen : (symbol low high).length = (low + 1) + (high + 1) := by simp [symbol]; omega
  refine ⟨w, ?_, ?_, rest⟩
  · rw [hlen, runFor_add_of_runFor hu, hw, State.nextTick_phase, State.startWait_phase]
  · exact (same.trans (u.startWait_sameAcquisition q true _)).trans same'

@[simp] theorem State.bitLoop_inputs (s : State) : s.bitLoop.inputs = s.inputs := by
  obtain ⟨-, h⟩ | ⟨-, h⟩ := s.bitLoop_cases <;> rw [h] <;> rfl

/-! ## The frame -/

/-- One bit of one byte is written. -/
theorem getLsbD_setBit {v : Byte} {i k : Nat} (hk : k < 8) (b : Bool) :
    (setBit v i b).getLsbD k = if k = i then b else v.getLsbD k := by
  simp only [setBit, BitVec.getLsbD_or, BitVec.getLsbD_and, BitVec.getLsbD_not, BitVec.getLsbD_shiftLeft,
    BitVec.getLsbD_setWidth, BitVec.getLsbD_ofBool, BitVec.getLsbD_one]
  obtain below | rfl | above : k < i ∨ k = i ∨ i < k := by omega
  · simp [below, below.ne, hk]
  · simp [hk]
  · have away : k - i ≠ 0 := by omega
    simp [above.le.not_gt, above.ne', away, hk]

theorem RawFrame.exists_byte? (f : RawFrame) {k : Nat} (hk : k < 5) : ∃ v, f.byte? k = some v := by
  interval_cases k <;> exact ⟨_, rfl⟩

/-- The store of a bit writes one byte of the frame. -/
theorem RawFrame.byte?_storeBit (f : RawFrame) {i : BitIndex} (hi : i.toNat < 40) (b : Bool) {k : Nat} (hk : k < 5) :
    (f.storeBit i b).byte? k =
      if k = i.toNat / 8 then (f.byte? k).map (setBit · (7 - i.toNat % 8) b) else f.byte? k := by
  have hm : i.toNat / 8 < 5 := by omega
  unfold RawFrame.storeBit
  generalize i.toNat / 8 = m at hm
  interval_cases m <;> interval_cases k <;> rfl

/-- The store of a bit writes one position of the frame (spec/20_memory.md R46). -/
theorem RawFrame.bitAt_storeBit (f : RawFrame) {i : BitIndex} {j : Nat} (hi : i.toNat < 40) (hj : j < 40) (b : Bool) :
    (f.storeBit i b).bitAt j = if j = i.toNat then some b else f.bitAt j := by
  obtain ⟨v, hv⟩ := f.exists_byte? (k := j / 8) (by omega)
  have same : 7 - j % 8 = 7 - i.toNat % 8 ∧ j / 8 = i.toNat / 8 ↔ j = i.toNat := by omega
  simp only [RawFrame.bitAt, f.byte?_storeBit hi b (k := j / 8) (by omega), hv, Option.map_some]
  by_cases byte : j / 8 = i.toNat / 8
  · rw [if_pos byte, Option.map_some, getLsbD_setBit (by omega)]
    simp only [← same, byte, and_true]
    split <;> rfl
  · rw [if_neg byte, if_neg fun e => byte (same.mpr e).2, Option.map_some]

/-- The bits stored one after the other from position `i` on. -/
def RawFrame.storeBits (f : RawFrame) (i : BitIndex) : List Bool → RawFrame
  | [] => f
  | b :: bits => (f.storeBit i b).storeBits (i + 1#6) bits

theorem RawFrame.bitAt_storeBits {bits : List Bool} {f : RawFrame} {i : BitIndex} {j : Nat}
    (hi : i.toNat + bits.length ≤ 40) (hj : j < 40) :
    (f.storeBits i bits).bitAt j = if j < i.toNat then f.bitAt j else bits[j - i.toNat]?.or (f.bitAt j) := by
  induction bits generalizing f i with
  | nil => simp [RawFrame.storeBits]
  | cons b bits ih =>
    rw [List.length_cons] at hi
    have next : (i + 1#6).toNat = i.toNat + 1 := by simp; omega
    rw [RawFrame.storeBits, ih (by omega), bitAt_storeBit f (by omega) hj, next]
    obtain before | rfl | after : j < i.toNat ∨ j = i.toNat ∨ i.toNat < j := by omega
    · rw [if_pos (by omega), if_neg (by omega), if_pos before]
    · simp
    · have shift : j - i.toNat = j - (i.toNat + 1) + 1 := by omega
      rw [if_neg (by omega), if_neg (by omega), if_neg (by omega), shift, List.getElem?_cons_succ]

theorem RawFrame.bitAt_storeBits_zero {bits : List Bool} {f : RawFrame} {j : Nat} (hn : bits.length ≤ 40) (hj : j < 40) :
    (f.storeBits 0#6 bits).bitAt j = bits[j]?.or (f.bitAt j) := by
  simpa using RawFrame.bitAt_storeBits (i := 0#6) (f := f) (by simpa using hn) hj

theorem bitOfCount_ofNat {p : Params} {n : Nat} (h : n < 128) :
    bitOfCount p (BitVec.ofNat 7 n) = decide (p.tOne.toNat < n) := by
  simp [bitOfCount, BitVec.ult, Nat.mod_eq_of_lt h]

/-- The sampling loop from its head on: as many symbols as bits are missing lead to CHECK, each storing its bit
(spec/41_frame_decoder.md R104 to R106). -/
theorem runFor_bitLoop {syms : List (Nat × Nat)} {w : State} (hfit : w.params.fits = true)
    (hn : w.biti.toNat + syms.length = w.params.nBits.toNat)
    (hb : ∀ p ∈ syms, p.1 ≤ w.params.tBitLow.toNat ∧ p.2 ≤ w.params.tBitHigh.toNat)
    (h : w.bitLoop.nextTick.offers (syms.flatMap fun p => symbol p.1 p.2)) :
    ∃ t, runFor (syms.flatMap fun p => symbol p.1 p.2).length w.bitLoop.nextTick = some t ∧ t.phase = .check ∧
      t.slots = w.slots ∧ t.h = w.h ∧
      t.frame = w.frame.storeBits w.biti (syms.map fun p => decide (w.params.tOne.toNat < p.2)) := by
  induction syms generalizing w with
  | nil =>
    have last : ¬ moreBits w.params w.biti = true := by
      rw [moreBits_iff, BitVec.lt_def, ← hn]
      exact Nat.lt_irrefl _
    have ends : w.bitLoop = w.goto .check := if_neg last
    exact ⟨_, rfl, by simp [ends], by simp [ends], by simp [ends], by simp [ends, RawFrame.storeBits]⟩
  | cons p syms ih =>
    rw [List.length_cons] at hn
    rw [List.forall_mem_cons] at hb
    rw [List.flatMap_cons] at h
    have more : moreBits w.params w.biti = true := by
      rw [moreBits_iff, BitVec.lt_def]
      omega
    have next : w.bitLoop = w.startWait .bitLow false w.params.tBitLow := if_pos more
    rw [next] at h ⊢
    obtain ⟨u, hu, same, later⟩ := runFor_symbol (p := .bitLow) (q := .bitHigh) (by simp) rfl (by simp) (by simp)
      (by simpa using hb.1.1) (fun _ _ => rfl) rfl
      (by simpa [Phase.budget] using hb.1.2) h
    have same := (w.startWait_sameAcquisition _ _ _).trans same
    have fits := fits_iff.mp hfit
    obtain ⟨t, ht, check, slots, handle, frame⟩ := ih
      (w := { u with frame := u.frame.storeBit u.biti (bitOfCount u.params (BitVec.ofNat 7 p.2)), biti := u.biti + 1#6 })
      (same.params ▸ hfit) (by simp [same.params, same.biti]; omega) (same.params ▸ hb.2) (later _ (State.bitLoop_inputs _))
    refine ⟨t, ?_, check, slots.trans same.slots, handle.trans same.h, frame.trans ?_⟩
    · rw [List.flatMap_cons, List.length_append, runFor_add_of_runFor hu]
      exact ht
    · have short : p.2 < 128 := hb.1.2.trans_lt w.params.tBitHigh.isLt
      rw [List.map_cons, RawFrame.storeBits, same.frame, same.biti, same.params, bitOfCount_ofNat short]

/-- Settles O37: the handshake's symbol leads to the head of the bit loop with BITI = 0, and each symbol of the frame stores its
bit and leads to the head again. -/
theorem frameIsAssembledFromSymbols : Obligations.FrameIsAssembledFromSymbols := by
  unfold Obligations.FrameIsAssembledFromSymbols
  intro s ackLow ackHigh syms hfit hp he hb hc hlow hhigh hn hsyms h
  obtain ⟨u, hu, same, later⟩ := runFor_symbol (q := .ackHigh) hp rfl he hc (hb ▸ hlow) (fun _ _ => rfl) rfl hhigh h
  obtain ⟨t, ht, check, slots, handle, frame⟩ := runFor_bitLoop (w := { u with biti := 0#6 }) (syms := syms)
    (same.params ▸ hfit) (by simp [same.params, hn]) (same.params ▸ hsyms)
    (later _ (State.bitLoop_inputs _))
  refine ⟨t, ?_, check, slots.trans same.slots, handle.trans same.h, fun j hj => ?_⟩
  · rw [List.length_append, runFor_add_of_runFor hu]
    exact ht
  · have room : (syms.map fun p => decide (u.params.tOne.toNat < p.2)).length ≤ 40 := by
      rw [List.length_map, hn]
      exact (fits_iff.mp hfit).1
    have frame : t.frame = u.frame.storeBits 0#6 (syms.map fun p => decide (u.params.tOne.toNat < p.2)) := frame
    rw [frame, RawFrame.bitAt_storeBits_zero room hj, same.frame, same.params, List.getElem?_map]
    cases syms[j]? <;> rfl

/-! ## The oracles a tick reads -/

section
variable (s : State) (j : Inputs)

theorem execCreate_withInp (cp : Bool) (var : Variant) (pin : Nat) :
    execCreate cp var pin (s.withInp j) = onNext (·.withInp j) (execCreate cp var pin s) := by
  have slots : (s.withInp j).slots = s.slots := rfl
  simp only [execCreate, onNext_ite, slots]
  cases firstFree s.slots <;> rfl

theorem execDestroy_withInp (hp : Bool) (n : Nat) :
    execDestroy hp n (s.withInp j) = onNext (·.withInp j) (execDestroy hp n s) := by
  have slot : (s.withInp j).slot? (BitVec.ofNat 8 n) = s.slot? (BitVec.ofNat 8 n) := rfl
  simp only [execDestroy, onNext_ite, slot]
  cases s.slot? (BitVec.ofNat 8 n) with
  | none => rfl
  | some c => simp only [onNext_ite]; rfl

theorem State.withInp_readFrom (hn : j.now = s.inp.now) (c : Slot) :
    (s.withInp j).readFrom c = (s.readFrom c).withInp j := by
  simp only [State.readFrom, State.withInp_readNow s j hn, State.withInp_readSlot, State.withInp_ite]
  rfl

/-- READ looks at the Edge Timer for a live slot only. -/
theorem execRead_withInp (hp dp : Bool) (n : Nat)
    (hn : hp = true → dp = true → s.live (BitVec.ofNat 8 n) = true → j.now = s.inp.now) :
    execRead hp dp n (s.withInp j) = onNext (·.withInp j) (execRead hp dp n s) := by
  have slot : (s.withInp j).slot? (BitVec.ofNat 8 n) = s.slot? (BitVec.ofNat 8 n) := rfl
  simp only [execRead, onNext_ite, slot]
  by_cases absent : hp = false ∨ dp = false
  · simp only [if_pos absent]
    rfl
  · simp only [if_neg absent]
    simp only [not_or, Bool.not_eq_false] at absent
    cases hc : s.slot? (BitVec.ofNat 8 n) with
    | none => rfl
    | some c =>
      cases ha : c.alloc with
      | false => simp [ha, onNext]
      | true =>
        have now := hn absent.1 absent.2 (State.live_iff.mpr ⟨c, hc, ha⟩)
        simp only [ha, reduceIte]
        exact congrArg Host.Outcome.next (State.withInp_readFrom { s with h := BitVec.ofNat 8 n } j now c)

theorem execDecoded_withInp (d : Except DecodeError Instr)
    (hn : ∀ n, d = .ok (.read true true n) → s.live (BitVec.ofNat 8 n) = true → j.now = s.inp.now) :
    execDecoded d (s.withInp j) = onNext (·.withInp j) (execDecoded d s) := by
  cases d with
  | error => rfl
  | ok i =>
    cases i with
    | create cp var pin => exact execCreate_withInp s j cp var pin
    | destroy hp n => exact execDestroy_withInp s j hp n
    | read hp dp n =>
      refine execRead_withInp s j hp dp n ?_
      rintro rfl rfl
      exact hn n rfl
    | _ => rfl

/-- IDLE reads the command port, and the Edge Timer where it accepts a READ of a live slot. -/
theorem execPhaseIdle_withInp (hv : j.cmdValid = s.inp.cmdValid) (hw : j.cmdWord = s.inp.cmdWord)
    (hn : s.inp.cmdValid = true → ∀ n, decodeCommand s.inp.cmdWord = .ok (.read true true n) →
      s.live (BitVec.ofNat 8 n) = true → j.now = s.inp.now) :
    execPhaseIdle (s.withInp j) = onNext (·.withInp j) (execPhaseIdle s) := by
  have valid : (s.withInp j).inp.cmdValid = s.inp.cmdValid := hv
  have word : (s.withInp j).inp.cmdWord = s.inp.cmdWord := hw
  simp only [execPhaseIdle, onNext_ite, valid, word]
  cases h : s.inp.cmdValid with
  | false => rfl
  | true => exact execDecoded_withInp (s.accept s.inp.cmdWord) j (decodeCommand s.inp.cmdWord) (hn h)

/-- A tick of the settle hold reads nothing on the input ports. -/
theorem execPhaseSettle_withInp_of_hold (hh : s.holdc ≠ 0#20) :
    execPhaseSettle (s.withInp j) = onNext (·.withInp j) (execPhaseSettle s) := by
  have hold (u : State) (hu : u.holdc ≠ 0#20) : execPhaseSettle u = .next u.holdTick := if_neg hu
  rw [hold s hh, hold (s.withInp j) hh]
  rfl

end

/-- Only a WAIT reads `pin_in` (spec/20_memory.md R43). -/
theorem step_withPinIn {s : State} {v : Level} (hw : s.phase.waiting = false) (hr : s.inp.rst = false) :
    step (s.withInp { s.inp with pinIn := v }) = step s := by
  refine step_withInp_of_exec s _ hr hr ?_
  by_cases idle : s.phase = .idle
  · rw [idle]
    exact execPhaseIdle_withInp s.beginTick _ rfl rfl fun _ _ _ _ => rfl
  · exact exec_phase_withInp s.beginTick _ idle (fun _ => rfl) fun waits => absurd (hw.symm.trans waits) Bool.false_ne_true

/-- Only SETTLE after its hold and IDLE at the acceptance of a READ of a live slot read `now` (spec/20_memory.md R44). -/
theorem step_withNow {s : State} {n : Time} (hold : s.phase = .settle → s.holdc ≠ 0#20)
    (dead : s.phase = .idle → s.inp.cmdValid = true → ∀ h, decodeCommand s.inp.cmdWord = .ok (.read true true h) →
      s.live (BitVec.ofNat 8 h) = false) (hr : s.inp.rst = false) :
    step (s.withInp { s.inp with now := n }) = step s := by
  refine step_withInp_of_exec s _ hr hr ?_
  by_cases idle : s.phase = .idle
  · rw [idle]
    exact execPhaseIdle_withInp s.beginTick _ rfl rfl fun hv h hd live =>
      absurd ((dead idle hv h hd).symm.trans live) Bool.false_ne_true
  · by_cases settle : s.phase = .settle
    · rw [settle]
      exact execPhaseSettle_withInp_of_hold s.beginTick _ (hold settle)
    · exact exec_phase_withInp s.beginTick _ idle (fun h => absurd h settle) fun _ => rfl

/-- Settles O13: a tick of reset reads neither oracle, and any other tick only where its phase's instruction does. -/
theorem stepReadsOraclesOnlyWhereRulesSay : Obligations.StepReadsOraclesOnlyWhereRulesSay := by
  unfold Obligations.StepReadsOraclesOnlyWhereRulesSay
  intro s v n
  cases hr : s.inp.rst with
  | true => exact ⟨fun _ => step_withInp_of_rst s _ hr hr, fun _ => step_withInp_of_rst s _ hr hr⟩
  | false =>
    refine ⟨fun unread => step_withPinIn (unread.resolve_left Bool.false_ne_true) hr, fun unread => ?_⟩
    obtain ⟨hold, dead⟩ := unread.resolve_left Bool.false_ne_true
    exact step_withNow hold dead hr

/-! ## The samples of the line -/

/-- The events `t` has after those of `s` are no samples. -/
def State.AddsNoSample (s t : State) : Prop :=
  ∃ es, t.trace = es ++ s.trace ∧ ∀ p v, .get p v ∉ es

theorem State.AddsNoSample.of_trace_eq {s t : State} (h : t.trace = s.trace) : s.AddsNoSample t :=
  ⟨[], h, by simp⟩

theorem State.AddsNoSample.trans {s t u : State} (h₁ : s.AddsNoSample t) (h₂ : t.AddsNoSample u) : s.AddsNoSample u := by
  obtain ⟨es, ht, hes⟩ := h₁
  obtain ⟨fs, hu, hfs⟩ := h₂
  exact ⟨fs ++ es, by rw [hu, ht, List.append_assoc], fun p v => by simp [hes, hfs]⟩

theorem State.accept_addsNoSample (s : State) (w : Word) : s.AddsNoSample (s.accept w) :=
  ⟨[.cmd w], rfl, by simp⟩

theorem State.readNow_addsNoSample (s : State) : s.AddsNoSample s.readNow :=
  ⟨[.now s.inp.now], rfl, by simp⟩

theorem State.holdEvent_addsNoSample (s : State) (n : HoldCount) : s.AddsNoSample (s.holdEvent n) :=
  ⟨[.hold n.toNat], rfl, by simp⟩

theorem State.driveLow_addsNoSample (s : State) (c : Slot) : s.AddsNoSample (s.driveLow c) :=
  ⟨[.hold s.params.tStartLow.toNat, .set c.cfgPin false, .dir c.cfgPin true], rfl, by simp⟩

theorem State.driveHigh_addsNoSample (s : State) : s.AddsNoSample s.driveHigh :=
  ⟨[.hold s.params.tStartHigh.toNat, .set s.pinSel true], rfl, by simp⟩

theorem State.startHighTick_addsNoSample (s : State) : s.AddsNoSample s.startHighTick := by
  obtain ⟨-, h⟩ | ⟨-, h⟩ := s.startHighTick_cases <;> rw [h]
  · exact ⟨[.dir s.pinSel false], rfl, by simp⟩
  · exact .of_trace_eq rfl

theorem State.startHighFirst_addsNoSample (s : State) : s.AddsNoSample s.startHighFirst :=
  s.driveHigh_addsNoSample.trans s.driveHigh.startHighTick_addsNoSample

theorem State.startLowTick_trace (s : State) : s.startLowTick.trace = s.trace := by
  obtain ⟨-, h⟩ | ⟨-, h⟩ := s.startLowTick_cases <;> rw [h] <;> rfl

theorem State.startLowFirst_addsNoSample (s : State) (c : Slot) : s.AddsNoSample (s.startLowFirst c) := by
  obtain ⟨-, h⟩ | ⟨-, h⟩ := s.startLowFirst_cases c <;> rw [h]
  · exact (s.driveLow_addsNoSample c).trans (s.driveLow c).enterStartHigh.startHighFirst_addsNoSample
  · exact (s.driveLow_addsNoSample c).trans (.of_trace_eq (s.driveLow c).startLowTick_trace)

theorem State.readSlot_trace (s : State) (c : Slot) : (s.readSlot c).trace = s.trace := by
  obtain ⟨-, -, h⟩ | ⟨-, -, h⟩ | ⟨-, h⟩ := s.readSlot_cases c <;> rw [h] <;> rfl

theorem State.readFrom_addsNoSample (s : State) (c : Slot) : s.AddsNoSample (s.readFrom c) := by
  obtain ⟨-, h⟩ | ⟨-, h⟩ := s.readFrom_cases c <;> rw [h]
  · exact s.readNow_addsNoSample.trans (s.readNow.holdEvent_addsNoSample _)
  · exact s.readNow_addsNoSample.trans (.of_trace_eq (s.readNow.readSlot_trace c))

theorem execRead_addsNoSample {hp dp : Bool} {n : Nat} {s t : State} (h : execRead hp dp n s = .next t) :
    s.AddsNoSample t := by
  obtain ⟨-, rfl⟩ | ⟨-, -, c, -, -, rfl⟩ := execRead_next h
  · exact .of_trace_eq rfl
  · exact State.readFrom_addsNoSample { s with h := BitVec.ofNat 8 n } c

theorem execCreate_trace {cp : Bool} {var : Variant} {pin : Nat} {s t : State} (h : execCreate cp var pin s = .next t) :
    t.trace = s.trace := by
  obtain ⟨-, rfl⟩ | ⟨-, -, -, rfl⟩ | ⟨-, -, _, _, -, rfl⟩ := execCreate_next h <;> rfl

theorem execDestroy_trace {hp : Bool} {n : Nat} {s t : State} (h : execDestroy hp n s = .next t) : t.trace = s.trace := by
  obtain ⟨-, _, -, -, rfl⟩ := execDestroy_next h
  rfl

theorem execPhaseIdle_addsNoSample {s t : State} (h : execPhaseIdle s = .next t) : s.AddsNoSample t := by
  have accepted := s.accept_addsNoSample s.inp.cmdWord
  obtain ⟨-, e⟩ | ⟨-, ⟨_, _, _, -, e⟩ | ⟨_, _, _, -, e⟩ | ⟨_, _, -, e⟩ | ⟨-, e⟩⟩ := execPhaseIdle_cases s <;> rw [e] at h
  · cases h; exact .of_trace_eq rfl
  · exact accepted.trans (.of_trace_eq (execCreate_trace h))
  · exact accepted.trans (execRead_addsNoSample h)
  · exact accepted.trans (.of_trace_eq (execDestroy_trace h))
  · cases h; exact accepted.trans (.of_trace_eq rfl)

theorem execPhaseSettle_addsNoSample {s t : State} (h : execPhaseSettle s = .next t) : s.AddsNoSample t := by
  obtain ⟨-, rfl⟩ | ⟨-, c, -, rfl⟩ := execPhaseSettle_next h
  · exact .of_trace_eq rfl
  · exact s.readNow_addsNoSample.trans (.of_trace_eq (s.readNow.readSlot_trace c))

theorem execPhaseStartLow_addsNoSample {s t : State} (h : execPhaseStartLow s = .next t) : s.AddsNoSample t := by
  obtain ⟨c, -, ⟨-, -, rfl⟩ | ⟨-, rfl⟩⟩ := execPhaseStartLow_next h
  · exact s.startLowFirst_addsNoSample c
  · exact .of_trace_eq s.startLowTick_trace

theorem execPhaseStartHigh_addsNoSample {s t : State} (h : execPhaseStartHigh s = .next t) : s.AddsNoSample t := by
  obtain ⟨-, e⟩ | ⟨-, e⟩ := execPhaseStartHigh_cases s <;> cases e.symm.trans h
  · exact s.startHighFirst_addsNoSample
  · exact s.startHighTick_addsNoSample

theorem execPhaseCheck_trace {s t : State} (h : execPhaseCheck s = .next t) : t.trace = s.trace := by
  obtain ⟨-, _, -, rfl⟩ | ⟨-, rfl⟩ := execPhaseCheck_next h <;> rfl

theorem execPhaseRespond_addsNoSample {s t : State} (h : execPhaseRespond s = .next t) : s.AddsNoSample t := by
  obtain ⟨-, e⟩ | ⟨-, e⟩ := execPhaseRespond_cases s <;> cases e.symm.trans h
  · exact ⟨[.rsp s.rspArgs], rfl, by simp⟩
  · exact .of_trace_eq rfl

theorem State.bitLoop_trace (s : State) : s.bitLoop.trace = s.trace := by
  obtain ⟨-, h⟩ | ⟨-, h⟩ := s.bitLoop_cases <;> rw [h] <;> rfl

theorem afterWait_trace (p : Phase) (s : State) (c : Count) : (afterWait p s c).trace = s.trace := by
  cases p with
  | ackHigh => exact State.bitLoop_trace { s with biti := 0#6 }
  | bitHigh => exact State.bitLoop_trace { s with frame := _, biti := s.biti + 1#6 }
  | _ => rfl

/-- A tick of a WAIT takes one sample and does nothing else to be seen on the pin (spec/20_memory.md R43). -/
theorem State.waitTick_trace (s : State) (p : Phase) :
    (s.waitTick (afterWait p)).trace = .get s.pinSel s.pinLevel :: s.trace := by
  obtain ⟨-, -, h⟩ | ⟨-, h⟩ | ⟨-, -, h⟩ := s.waitTick_cases (afterWait p) <;> rw [h]
  · rfl
  · exact afterWait_trace p s.sample s.cnt
  · rfl

/-- A phase that is no WAIT takes no sample. -/
theorem exec_addsNoSample {p : Phase} {s t : State} (hw : p.waiting = false) (h : exec p.instr s = .next t) :
    s.AddsNoSample t := by
  cases p with
  | ackLow | ackHigh | bitLow | bitHigh => cases hw
  | idle => exact execPhaseIdle_addsNoSample h
  | settle => exact execPhaseSettle_addsNoSample h
  | startLow => exact execPhaseStartLow_addsNoSample h
  | startHigh => exact execPhaseStartHigh_addsNoSample h
  | check => exact .of_trace_eq (execPhaseCheck_trace h)
  | respond => exact execPhaseRespond_addsNoSample h

/-- A step takes no sample, or it is a tick of a WAIT, and the sample of the selected pin is its only event. -/
theorem step_samples {s t : State} (h : step s = .next t) :
    s.AddsNoSample t ∨ (s.inp.rst = false ∧ s.phase.waiting = true ∧ t.trace = .get s.pinSel s.inp.pinIn :: s.trace) := by
  obtain ⟨-, rfl⟩ | ⟨hr, u, hu, rfl⟩ := step_cases h
  · exact .inl (.of_trace_eq (by simp))
  · cases hw : s.phase.waiting with
    | false =>
      obtain ⟨es, hes, noGet⟩ := exec_addsNoSample hw hu
      exact .inl ⟨es, by simpa using hes, noGet⟩
    | true =>
      cases (exec_waiting hw s.beginTick).symm.trans hu
      exact .inr ⟨hr, rfl, (State.nextTick_trace _).trans (s.beginTick.waitTick_trace s.phase)⟩

/-- Settles O44: only a WAIT takes a sample, and from the invariant the pin is an input throughout a WAIT's tick. -/
theorem noSampleWhileDriving : Obligations.NoSampleWhileDriving := by
  unfold Obligations.NoSampleWhileDriving
  intro s t inv h p v hget
  obtain ⟨es, hes, noGet⟩ | ⟨hr, hw, ht⟩ := step_samples h
  · exact absurd (by simpa [hes] using hget) (noGet p v)
  · obtain ⟨-, quiet, -⟩ := Phase.kind_of_waiting hw
    obtain ⟨input, -⟩ := inv.released quiet
    obtain ⟨-, same, -⟩ := State.pinRegs_eq_iff.mp (step_pinRegs hr quiet h)
    obtain ⟨rfl, rfl⟩ : p = s.pinSel ∧ v = s.inp.pinIn := by simpa [ht] using hget
    exact ⟨input, same.trans input, rfl, rfl, ht⟩

end Sys2Proof.Machine

/-!
PROOFS of the family spec/30_encoding.md: the command words and the PHASE codes (R61 to R65, R71), the answer to a reserved word
(R64), a symbol of the line and its bit (R69, R104 to R106), the command lines (R72, R73).
-/

namespace Sys2Proof

/-! ## A command word and its fields -/

/-- Bits [27:8] of a command word, 0 in every format (R61, R62). -/
def zeroField (w : Word) : BitVec 20 := w.extractLsb' 8 20

theorem zeroField_commandWord (op : BitVec 2) (p b : Bool) (low : Byte) : zeroField (commandWord op p b low) = 0#20 := by
  rw [zeroField, commandWord, BitVec.extractLsb'_append_eq_of_le (le_refl 8)]
  exact BitVec.extractLsb'_append_eq_of_add_le (le_refl 20)

/-- A word with the zero field at 0 is put together from its other fields: the formats have no further bits (R61, R62). -/
theorem commandWord_fields {w : Word} (hz : zeroField w = 0#20) :
    commandWord (opField w) (presentField w) (bit28Field w) (lowField w) = w := by
  have bit (i : Nat) : BitVec.ofBool (w.getLsbD i) = w.extractLsb' i 1 := by
    apply BitVec.eq_of_getLsbD_eq
    simp
  rw [commandWord, presentField, bit28Field, bit, bit, ← hz]
  simp only [opField, zeroField, lowField, BitVec.extractLsb'_append_extractLsb'_eq_extractLsb', BitVec.extractLsb'_eq_self]

/-- The encoder's word from the fields the decoder reads. -/
theorem command_fields {w : Word} {op : BitVec 2} {b : Bool} (hop : opField w = op) (hb : bit28Field w = b)
    (hz : zeroField w = 0#20) :
    Code.command (commandWord op (presentField w) b (BitVec.ofNat 8 (lowField w).toNat)) = .command w := by
  subst hop hb
  rw [BitVec.ofNat_toNat, BitVec.setWidth_eq, commandWord_fields hz]

/-! ## The rows of the opcode map -/

/-- A field that a mask keeps whole is the field of what the mask leaves. -/
theorem extractLsb'_of_and_eq {w m x : Word} {k n : Nat} (h : w &&& m = x) (keeps : m.extractLsb' k n = BitVec.allOnes n) :
    w.extractLsb' k n = x.extractLsb' k n := by
  rw [← h, BitVec.extractLsb'_and, keeps, BitVec.and_allOnes]

/-- The mask of CREATE and READ keeps OP and the zero field (R63). -/
theorem and_mask_eq_iff {w : Word} {op : BitVec 2} :
    w &&& 0xCFFFFF00#32 = op ++ 0#30 ↔ opField w = op ∧ zeroField w = 0#20 := by
  constructor
  · intro h
    exact ⟨(extractLsb'_of_and_eq h rfl).trans BitVec.extractLsb'_append_eq_left,
      (extractLsb'_of_and_eq h rfl).trans (BitVec.extractLsb'_append_eq_of_add_le (by omega))⟩
  · rintro ⟨rfl, hz⟩
    conv_lhs => rw [← commandWord_fields hz]
    exact Laws.EncodedRow.commandWord_and_mask _ _ _ _

/-- The mask of DESTROY keeps bit 28 as well (R63). -/
theorem and_mask28_eq_iff {w : Word} {op : BitVec 2} :
    w &&& 0xDFFFFF00#32 = op ++ 0#30 ↔ opField w = op ∧ bit28Field w = false ∧ zeroField w = 0#20 := by
  constructor
  · intro h
    refine ⟨(extractLsb'_of_and_eq h rfl).trans BitVec.extractLsb'_append_eq_left, ?_,
      (extractLsb'_of_and_eq h rfl).trans (BitVec.extractLsb'_append_eq_of_add_le (by omega))⟩
    have bit : w.extractLsb' 28 1 = 0#1 :=
      (extractLsb'_of_and_eq h rfl).trans (BitVec.extractLsb'_append_eq_of_add_le (by omega))
    rw [bit28Field, BitVec.getLsbD_eq_extractLsb', bit]
    rfl
  · rintro ⟨rfl, hb, hz⟩
    conv_lhs => rw [← commandWord_fields hz, hb]
    exact Laws.EncodedRow.commandWord_and_mask28 _ _ _

theorem createRow_selects_iff {w : Word} : createRow.selects w = true ↔ opField w = 0b00#2 ∧ zeroField w = 0#20 :=
  beq_iff_eq.trans (and_mask_eq_iff (op := 0b00#2))

theorem readRow_selects_iff {w : Word} : readRow.selects w = true ↔ opField w = 0b01#2 ∧ zeroField w = 0#20 :=
  beq_iff_eq.trans (and_mask_eq_iff (op := 0b01#2))

theorem destroyRow_selects_iff {w : Word} :
    destroyRow.selects w = true ↔ opField w = 0b10#2 ∧ bit28Field w = false ∧ zeroField w = 0#20 :=
  beq_iff_eq.trans (and_mask28_eq_iff (op := 0b10#2))

/-- The four values of OP (R60). -/
theorem op_cases (op : BitVec 2) : op = 0b00#2 ∨ op = 0b01#2 ∨ op = 0b10#2 ∨ op = 0b11#2 := by
  revert op
  decide

/-! ## The decoder -/

theorem decodeCommand_of_createRow {w : Word} (h : createRow.selects w = true) :
    decodeCommand w = .ok (.create (presentField w) (Variant.ofBit (bit28Field w)) (lowField w).toNat) :=
  if_pos h

theorem decodeCommand_of_readRow {w : Word} (h : readRow.selects w = true) :
    decodeCommand w = .ok (.read (presentField w) (bit28Field w) (lowField w).toNat) := by
  have op := (readRow_selects_iff.mp h).1
  simp [decodeCommand, createRow_selects_iff, h, op]

theorem decodeCommand_of_destroyRow {w : Word} (h : destroyRow.selects w = true) :
    decodeCommand w = .ok (.destroy (presentField w) (lowField w).toNat) := by
  have op := (destroyRow_selects_iff.mp h).1
  simp [decodeCommand, createRow_selects_iff, readRow_selects_iff, h, op]

/-- What a word can be: a command of one row with the fields of the word, or, selected by no row, reserved (R63, R64). -/
theorem decodeCommand_cases (w : Word) :
    (createRow.selects w = true ∧
        decodeCommand w = .ok (.create (presentField w) (Variant.ofBit (bit28Field w)) (lowField w).toNat)) ∨
      (readRow.selects w = true ∧ decodeCommand w = .ok (.read (presentField w) (bit28Field w) (lowField w).toNat)) ∨
      (destroyRow.selects w = true ∧ decodeCommand w = .ok (.destroy (presentField w) (lowField w).toNat)) ∨
      ((∀ r ∈ opcodeMap, r.selects w = false) ∧ ∃ e, decodeCommand w = .error e) := by
  by_cases hc : createRow.selects w = true
  · exact .inl ⟨hc, decodeCommand_of_createRow hc⟩
  by_cases hr : readRow.selects w = true
  · exact .inr (.inl ⟨hr, decodeCommand_of_readRow hr⟩)
  by_cases hd : destroyRow.selects w = true
  · exact .inr (.inr (.inl ⟨hd, decodeCommand_of_destroyRow hd⟩))
  refine .inr (.inr (.inr ⟨by simp [opcodeMap, hc, hr, hd], ?_⟩))
  simp only [decodeCommand, hc, hr, hd]
  by_cases op : opField w = 0b11#2 <;> simp [op]

/-- The row of the opcode map a command stands in; a PHASE row has none (R63). -/
def Instr.row? : Instr → Option OpRow
  | .create _ _ _ => some createRow
  | .read _ _ _ => some readRow
  | .destroy _ _ => some destroyRow
  | .phaseIdle | .phaseSettle | .phaseStartLow | .phaseStartHigh | .phaseAckLow | .phaseAckHigh | .phaseBitLow
  | .phaseBitHigh | .phaseCheck | .phaseRespond => none

/-- The decoder gives a word a command only by the command's own row. -/
theorem selects_of_decodeCommand {w : Word} {i : Instr} (h : decodeCommand w = .ok i) :
    ∃ r, i.row? = some r ∧ r.selects w = true := by
  obtain ⟨selected, h'⟩ | ⟨selected, h'⟩ | ⟨selected, h'⟩ | ⟨-, _, h'⟩ := decodeCommand_cases w <;> cases h.symm.trans h'
  all_goals exact ⟨_, rfl, selected⟩

theorem decodeCommand_create_iff {w : Word} :
    (∃ cp var pin, decodeCommand w = .ok (.create cp var pin)) ↔ createRow.selects w = true :=
  ⟨fun ⟨_, _, _, h⟩ => by simpa [Instr.row?] using selects_of_decodeCommand h,
    fun h => ⟨_, _, _, decodeCommand_of_createRow h⟩⟩

theorem decodeCommand_read_iff {w : Word} :
    (∃ hp dp h, decodeCommand w = .ok (.read hp dp h)) ↔ readRow.selects w = true :=
  ⟨fun ⟨_, _, _, h⟩ => by simpa [Instr.row?] using selects_of_decodeCommand h,
    fun h => ⟨_, _, _, decodeCommand_of_readRow h⟩⟩

theorem decodeCommand_destroy_iff {w : Word} :
    (∃ hp h, decodeCommand w = .ok (.destroy hp h)) ↔ destroyRow.selects w = true :=
  ⟨fun ⟨_, _, h⟩ => by simpa [Instr.row?] using selects_of_decodeCommand h,
    fun h => ⟨_, _, decodeCommand_of_destroyRow h⟩⟩

/-- The reserved words are those no row selects (R64). -/
theorem decodeCommand_error_iff {w : Word} :
    (∃ e, decodeCommand w = .error e) ↔ ∀ r ∈ opcodeMap, r.selects w = false := by
  obtain ⟨selected, h⟩ | ⟨selected, h⟩ | ⟨selected, h⟩ | ⟨none, h⟩ := decodeCommand_cases w
  · simp [h, opcodeMap, selected]
  · simp [h, opcodeMap, selected]
  · simp [h, opcodeMap, selected]
  · exact iff_of_true h none

/-- Two rows differ in OP, which every mask keeps (R63). -/
theorem opcodeMap_countP_le_one (w : Word) : opcodeMap.countP (fun r => r.selects w) ≤ 1 := by
  have oneRow (p : Prop) [Decidable p] : (if p then 1 else 0) ≤ 1 := by split <;> decide
  obtain op | op | op | op := op_cases (opField w) <;>
    simp [opcodeMap, List.countP_cons, createRow_selects_iff, readRow_selects_iff, destroyRow_selects_iff, op, oneRow]

/-- The reserved words by their fields: the list of R64. -/
theorem decodeCommand_error_iff_fields {w : Word} :
    (∃ e, decodeCommand w = .error e) ↔
      opField w = 0b11#2 ∨ ((opField w = 0b00#2 ∨ opField w = 0b01#2) ∧ zeroField w ≠ 0#20) ∨
        (opField w = 0b10#2 ∧ (bit28Field w = true ∨ zeroField w ≠ 0#20)) := by
  rw [decodeCommand_error_iff]
  simp only [opcodeMap, List.forall_mem_cons, ← Bool.not_eq_true, createRow_selects_iff, readRow_selects_iff,
    destroyRow_selects_iff]
  obtain op | op | op | op := op_cases (opField w) <;> simp [op, imp_iff_not_or]

/-! ## The PHASE codes -/

theorem Phase.code_of_ofCode {c : BitVec 4} {p : Phase} (h : Phase.ofCode c = some p) : p.code = c := by
  unfold Phase.ofCode at h
  split at h <;> cases h
  all_goals exact BitVec.eq_of_toNat_eq (Eq.symm ‹_›)

theorem decodePhase_ok {c : BitVec 4} {i : Instr} (h : decodePhase c = .ok i) : ∃ p : Phase, p.instr = i ∧ p.code = c := by
  unfold decodePhase at h
  split at h
  next p hp => exact ⟨p, Except.ok.inj h, Phase.code_of_ofCode hp⟩
  next => cases h

theorem encode_phaseInstr (p : Phase) : encode p.instr = .phase p.code := by
  cases p <;> rfl

theorem wellFormed_phaseInstr (p : Phase) : WellFormed p.instr = true := by
  cases p <;> rfl

/-! ## The round trips -/

/-- Settles O1: each row selects the words its format builds, and their fields are the ones they were built from. -/
theorem decodeOfEncodeIsInstruction : Obligations.DecodeOfEncodeIsInstruction := by
  unfold Obligations.DecodeOfEncodeIsInstruction
  intro i fits
  cases i with
  | create cp var pin =>
    have selected := createRow_selects_iff.mpr ⟨opField_commandWord _ cp var.bit (.ofNat 8 pin),
      zeroField_commandWord _ _ _ _⟩
    have small : pin < 256 := of_decide_eq_true fits
    rw [encode, decode, decodeCommand_of_createRow selected, presentField_commandWord, bit28Field_commandWord,
      lowField_commandWord, Variant.ofBit_bit, BitVec.toNat_ofNat, Nat.mod_eq_of_lt small]
  | read hp dp h =>
    have selected := readRow_selects_iff.mpr ⟨opField_commandWord _ hp dp (.ofNat 8 h), zeroField_commandWord _ _ _ _⟩
    have small : h < 256 := of_decide_eq_true fits
    rw [encode, decode, decodeCommand_of_readRow selected, presentField_commandWord, bit28Field_commandWord,
      lowField_commandWord, BitVec.toNat_ofNat, Nat.mod_eq_of_lt small]
  | destroy hp h =>
    have selected := destroyRow_selects_iff.mpr ⟨opField_commandWord _ hp false (.ofNat 8 h), bit28Field_commandWord _ _ _ _,
      zeroField_commandWord _ _ _ _⟩
    have small : h < 256 := of_decide_eq_true fits
    rw [encode, decode, decodeCommand_of_destroyRow selected, presentField_commandWord, lowField_commandWord,
      BitVec.toNat_ofNat, Nat.mod_eq_of_lt small]
  | phaseIdle | phaseSettle | phaseStartLow | phaseStartHigh | phaseAckLow | phaseAckHigh | phaseBitLow | phaseBitHigh
  | phaseCheck | phaseRespond => rfl

/-- Settles O2: a row that selects a word fixes OP and the zero bits, and the other fields are read back into their places. -/
theorem encodeOfDecodeIsCode : Obligations.EncodeOfDecodeIsCode := by
  unfold Obligations.EncodeOfDecodeIsCode
  intro c i h
  cases c with
  | phase c =>
    obtain ⟨p, rfl, rfl⟩ := decodePhase_ok h
    exact ⟨wellFormed_phaseInstr p, encode_phaseInstr p⟩
  | command w =>
    have fits : decide ((lowField w).toNat < 256) = true := decide_eq_true (lowField w).isLt
    obtain ⟨selected, h'⟩ | ⟨selected, h'⟩ | ⟨selected, h'⟩ | ⟨-, _, h'⟩ := decodeCommand_cases w <;>
      cases h.symm.trans h'
    · obtain ⟨op, zero⟩ := createRow_selects_iff.mp selected
      exact ⟨fits, command_fields op (Variant.bit_ofBit _).symm zero⟩
    · obtain ⟨op, zero⟩ := readRow_selects_iff.mp selected
      exact ⟨fits, command_fields op rfl zero⟩
    · obtain ⟨op, bit28, zero⟩ := destroyRow_selects_iff.mp selected
      exact ⟨fits, command_fields op bit28 zero⟩

/-- Settles O3: the decoder gives a command by the command's row and by no other, and the rows differ in OP. -/
theorem opcodeMapSelectsOneCommand : Obligations.OpcodeMapSelectsOneCommand := by
  unfold Obligations.OpcodeMapSelectsOneCommand
  intro w
  exact ⟨decodeCommand_create_iff.trans beq_iff_eq, decodeCommand_read_iff.trans beq_iff_eq,
    decodeCommand_destroy_iff.trans beq_iff_eq, opcodeMap_countP_le_one w⟩

/-- Settles O5, a table of words. -/
theorem writtenWordsDecode : Obligations.WrittenWordsDecode := by
  unfold Obligations.WrittenWordsDecode
  decide

end Sys2Proof

namespace Sys2Proof.Machine

/-! ## The answer to a reserved word -/

theorem execPhaseIdle_of_reserved {s : State} {e : DecodeError} (hv : s.inp.cmdValid = true)
    (he : decodeCommand s.inp.cmdWord = .error e) : execPhaseIdle s = .next (s.accept s.inp.cmdWord).rejectWord := by
  rw [execPhaseIdle, if_pos hv, he]
  rfl

/-- Settles O4: the words no row selects, by their fields, and the rule PHASE_IDLE starts for one of them. -/
theorem reservedWordsAreInvalidArg : Obligations.ReservedWordsAreInvalidArg := by
  unfold Obligations.ReservedWordsAreInvalidArg
  intro w
  refine ⟨decodeCommand_error_iff_fields, ?_⟩
  rintro s e hv rfl he
  exact ⟨Config.ovh s.drawn, s.drawn + 1, execPhaseIdle_of_reserved hv he⟩

/-! ## One bit of a frame -/

@[simp] theorem State.bitLoop_biti (s : State) : s.bitLoop.biti = s.biti := by
  obtain ⟨-, h⟩ | ⟨-, h⟩ := s.bitLoop_cases <;> rw [h] <;> rfl

@[simp] theorem State.bitLoop_frame (s : State) : s.bitLoop.frame = s.frame := by
  obtain ⟨-, h⟩ | ⟨-, h⟩ := s.bitLoop_cases <;> rw [h] <;> rfl

@[simp] theorem State.bitLoop_slots (s : State) : s.bitLoop.slots = s.slots := by
  obtain ⟨-, h⟩ | ⟨-, h⟩ := s.bitLoop_cases <;> rw [h] <;> rfl

theorem State.bitLoop_phase (s : State) :
    s.bitLoop.phase = if s.biti.toNat < s.params.nBits.toNat then .bitLow else .check := by
  simp only [← BitVec.lt_def, ← moreBits_iff]
  obtain ⟨more, h⟩ | ⟨last, h⟩ := s.bitLoop_cases
  · rw [h, if_pos more]; rfl
  · rw [h, if_neg (by simp [last])]; rfl

/-- Settles O36: the two WAITs of the symbol end with the length of its high phase as the count, and the store of the bit leads
to the head of the bit loop. -/
theorem symbolStoresItsBit : Obligations.SymbolStoresItsBit := by
  unfold Obligations.SymbolStoresItsBit
  intro s low high hfit hp he hb hc hi hlow hhigh h
  obtain ⟨u, hu, same, -⟩ := runFor_symbol (q := .bitHigh) (l := []) hp rfl he hc (hb ▸ hlow) (fun _ _ => rfl) rfl hhigh
    (by simpa using h)
  have ticks : (symbol low high).length = low + high + 2 := by simp [symbol]; omega
  have room : s.biti.toNat < 40 := hi.trans_le (fits_iff.mp hfit).1
  have next : (s.biti + 1#6).toNat = s.biti.toNat + 1 := by simp; omega
  have bit : bitOfCount s.params (BitVec.ofNat 7 high) = decide (s.params.tOne.toNat < high) :=
    bitOfCount_ofNat (hhigh.trans_lt s.params.tBitHigh.isLt)
  refine ⟨_, ticks ▸ hu, ?_, ?_, fun j hj => ?_, ?_⟩
  · simp [afterWait, State.storeBit, same.biti]
  · simp [afterWait, State.storeBit, same.slots]
  · simp [afterWait, State.storeBit, same.frame, same.biti, same.params, bit, RawFrame.bitAt_storeBit s.frame room hj]
  · rw [State.nextTick_phase, afterWait, State.storeBit, State.bitLoop_phase, same.biti, same.params, next]

/-! ## The words of a line -/

/-- A character of a word: no blank, no tab, no `#` (R72). -/
def wordChar (c : Char) : Bool := !(c == '#' || c == ' ' || c == '\t')

/-- One word of a line. -/
def isWord (w : List Char) : Bool := !w.isEmpty && w.all wordChar

theorem isWord_append {v w : List Char} (hv : isWord v = true) (hw : isWord w = true) : isWord (v ++ w) = true := by
  simp only [isWord, Bool.and_eq_true, List.all_append] at hv hw ⊢
  obtain ⟨nonempty, chars⟩ := hv
  exact ⟨by simp_all, chars, hw.2⟩

theorem wordsOf_append {w : List Char} (hw : w.all wordChar = true) (cs acc : List Char) :
    wordsOf (w ++ cs) acc = wordsOf cs (w.reverse ++ acc) := by
  induction w generalizing acc with
  | nil => rfl
  | cons c w ih =>
    simp only [List.all_cons, Bool.and_eq_true, wordChar, Bool.not_eq_true', Bool.or_eq_false_iff, beq_eq_false_iff_ne] at hw
    obtain ⟨⟨⟨hash, blank⟩, tab⟩, rest⟩ := hw
    simp [wordsOf, hash, blank, tab, ih rest]

theorem closeWord_reverse {w : List Char} (hw : isWord w = true) : closeWord w.reverse = [w] := by
  simp_all [closeWord, isWord]

/-- A line of one word. -/
theorem wordsOf_word {w : List Char} (hw : isWord w = true) : wordsOf w [] = [w] := by
  have chars : w.all wordChar = true := (Bool.and_eq_true_iff.mp hw).2
  simpa [wordsOf, closeWord_reverse hw] using wordsOf_append chars [] []

/-- The first word of a line ends at a blank. -/
theorem wordsOf_word_blank {w : List Char} (hw : isWord w = true) (cs : List Char) :
    wordsOf (w ++ ' ' :: cs) [] = w :: wordsOf cs [] := by
  have chars : w.all wordChar = true := (Bool.and_eq_true_iff.mp hw).2
  simp [wordsOf_append chars, wordsOf, closeWord_reverse hw]

/-- What stands after a `#` is no part of any word (R72; log 21). -/
theorem wordsOf_comment (line comment acc : List Char) : wordsOf (line ++ '#' :: comment) acc = wordsOf line acc := by
  induction line generalizing acc with
  | nil => simp [wordsOf]
  | cons c cs ih => simp only [List.cons_append, wordsOf, ih]

/-! ## Numbers -/

theorem digitOf_digitChar {d : Nat} (h : d < 10) : digitOf (digitChar d) = some d := by
  interval_cases d <;> rfl

theorem wordChar_digitChar {d : Nat} (h : d < 10) : wordChar (digitChar d) = true := by
  interval_cases d <;> rfl

/-- The number that decimal digits stand for, most significant first. -/
def ofDigits (n : Nat) (ds : List Nat) : Nat := ds.foldl (fun m d => 10 * m + d) n

/-- A number is written with its decimal digits (R7). -/
theorem decimal_eq_digits {n : Nat} (h : n < 1000) :
    ∃ ds : List Nat, decimal n = ds.map digitChar ∧ ds ≠ [] ∧ (∀ d ∈ ds, d < 10) ∧ ofDigits 0 ds = n := by
  unfold decimal
  split
  · exact ⟨[n], rfl, by simp, by simpa, by simp [ofDigits]⟩
  · split
    · exact ⟨[n / 10, n % 10], rfl, by simp, by simp; omega, by simp [ofDigits]; omega⟩
    · exact ⟨[n / 100, n / 10 % 10, n % 10], rfl, by simp, by simp; omega, by simp [ofDigits]; omega⟩

theorem numberOnto_digits {ds : List Nat} (h : ∀ d ∈ ds, d < 10) (n : Nat) :
    numberOnto n (ds.map digitChar) = some (ofDigits n ds) := by
  induction ds generalizing n with
  | nil => rfl
  | cons d ds ih =>
    rw [List.forall_mem_cons] at h
    rw [List.map_cons, numberOnto, digitOf_digitChar h.1]
    exact ih h.2 (10 * n + d)

theorem isWord_decimal {n : Nat} (h : n < 1000) : isWord (decimal n) = true := by
  obtain ⟨ds, written, nonempty, small, -⟩ := decimal_eq_digits h
  simpa [isWord, written, nonempty] using fun d hd => wordChar_digitChar (small d hd)

theorem byteNumber_decimal {n : Nat} (h : n < 256) : byteNumber (decimal n) = some n := by
  obtain ⟨ds, written, nonempty, small, value⟩ := decimal_eq_digits (show n < 1000 by omega)
  simp [byteNumber, written, nonempty, numberOnto_digits small, value, h]

theorem afterKey_append (key rest : List Char) : afterKey key (key ++ rest) = some rest := by
  induction key with
  | nil => cases rest <;> rfl
  | cons k ks ih => simp [afterKey, ih]

theorem fieldNumber_decimal (key : String) {n : Nat} (h : n < 256) : fieldNumber key (key.toList ++ decimal n) = some n := by
  simp [fieldNumber, afterKey_append, byteNumber_decimal h]

/-! ## The fields of a line -/

/-- The field `pin=<n>`. -/
def pinText (n : Nat) : List Char := "pin=".toList ++ decimal n

/-- The field `h=<n>`. -/
def handleText (n : Nat) : List Char := "h=".toList ++ decimal n

/-- The field `var=T11` or `var=T22`. -/
def variantText : Variant → List Char
  | .type11 => "var=T11".toList
  | .type22 => "var=T22".toList

theorem isWord_pinText {n : Nat} (h : n < 256) : isWord (pinText n) = true :=
  isWord_append (by decide) (isWord_decimal (by omega))

theorem isWord_handleText {n : Nat} (h : n < 256) : isWord (handleText n) = true :=
  isWord_append (by decide) (isWord_decimal (by omega))

theorem isWord_variantText (v : Variant) : isWord (variantText v) = true := by
  cases v <;> decide

theorem fieldNumber_pinText {n : Nat} (h : n < 256) : fieldNumber "pin=" (pinText n) = some n :=
  fieldNumber_decimal "pin=" h

theorem fieldNumber_handleText {n : Nat} (h : n < 256) : fieldNumber "h=" (handleText n) = some n :=
  fieldNumber_decimal "h=" h

theorem variantField_variantText (v : Variant) : variantField (variantText v) = some v := by
  cases v <;> decide

/-- A variant is no pin. -/
theorem fieldNumber_pin_variantText (v : Variant) : fieldNumber "pin=" (variantText v) = none := by
  cases v <;> decide

theorem handleText_ne_null (n : Nat) : handleText n ≠ "NULL".toList := by
  simp [handleText]

theorem handleText_ne_dstNull (n : Nat) : handleText n ≠ "dst=NULL".toList := by
  simp [handleText]

theorem parseCreate_pin_variant {n : Nat} (h : n < 256) (v : Variant) :
    parseCreate [pinText n, variantText v] = some (.create true v n) := by
  simp [parseCreate, createOf, fieldNumber_pinText h, variantField_variantText]

theorem parseCreate_variant_pin {n : Nat} (h : n < 256) (v : Variant) :
    parseCreate [variantText v, pinText n] = some (.create true v n) := by
  simp [parseCreate, createOf, fieldNumber_pin_variantText, fieldNumber_pinText h, variantField_variantText]

theorem parseRead_handle {n : Nat} (h : n < 256) : parseRead [handleText n] = some (.read true true n) := by
  rw [parseRead, if_neg (handleText_ne_null n), fieldNumber_handleText h, Option.map_some]

theorem parseDestroy_handle {n : Nat} (h : n < 256) : parseDestroy [handleText n] = some (.destroy true n) := by
  rw [parseDestroy, if_neg (handleText_ne_null n), fieldNumber_handleText h, Option.map_some]

theorem readNullDst_handle {n : Nat} (h : n < 256) :
    readNullDst (handleText n) "dst=NULL".toList = some (.read true false n) := by
  rw [readNullDst, if_pos rfl, fieldNumber_handleText h, Option.map_some]

theorem parseRead_handle_dst {n : Nat} (h : n < 256) :
    parseRead [handleText n, "dst=NULL".toList] = some (.read true false n) := by
  rw [parseRead, readNullDst_handle h, Option.orElse_some]

theorem parseRead_dst_handle {n : Nat} (h : n < 256) :
    parseRead ["dst=NULL".toList, handleText n] = some (.read true false n) := by
  rw [parseRead, readNullDst, if_neg (handleText_ne_dstNull n), Option.orElse_none, readNullDst_handle h]

/-! ## The lines -/

/-- A line of words with single blanks between them. -/
def lineOf : List (List Char) → List Char
  | [] => []
  | [w] => w
  | w :: ws => w ++ ' ' :: lineOf ws

theorem wordsOf_lineOf {ws : List (List Char)} (h : ∀ w ∈ ws, isWord w = true) : wordsOf (lineOf ws) [] = ws := by
  induction ws with
  | nil => rfl
  | cons w ws ih =>
    rw [List.forall_mem_cons] at h
    cases ws with
    | nil => exact wordsOf_word h.1
    | cons v ws => rw [lineOf, wordsOf_word_blank h.1, ih h.2]; simp

section
variable {fields : List (List Char)} (h : ∀ w ∈ fields, isWord w = true)
include h

theorem parseCommand_create : parseCommand (lineOf ("CREATE".toList :: fields)) = parseCreate fields := by
  rw [parseCommand, wordsOf_lineOf (List.forall_mem_cons.mpr ⟨by decide, h⟩)]
  rfl

theorem parseCommand_read : parseCommand (lineOf ("READ".toList :: fields)) = parseRead fields := by
  rw [parseCommand, wordsOf_lineOf (List.forall_mem_cons.mpr ⟨by decide, h⟩)]
  rfl

theorem parseCommand_destroy : parseCommand (lineOf ("DESTROY".toList :: fields)) = parseDestroy fields := by
  rw [parseCommand, wordsOf_lineOf (List.forall_mem_cons.mpr ⟨by decide, h⟩)]
  rfl

end

/-! ## The words the lines mean -/

theorem toNat_append_byte (x : BitVec 24) (v : Byte) : (x ++ v : Word).toNat = x.toNat * 256 + v.toNat := by
  rw [BitVec.toNat_append, ← Nat.shiftLeft_add_eq_or_of_lt v.isLt, Nat.shiftLeft_eq]

/-- The low field of a word adds its number to the word. -/
theorem append_ofNat_eq_add (x : BitVec 24) {n : Nat} (h : n < 256) :
    x ++ BitVec.ofNat 8 n = (x ++ 0#8 : Word) + BitVec.ofNat 32 n := by
  apply BitVec.eq_of_toNat_eq
  rw [BitVec.toNat_add, toNat_append_byte, toNat_append_byte]
  simp only [BitVec.toNat_ofNat]
  omega

/-- Settles O6: each line is a line of words whose fields are read back, and its number is the low field of its word. A comment
adds no word to any line. -/
theorem commandLinesMeanWords : Obligations.CommandLinesMeanWords := by
  unfold Obligations.CommandLinesMeanWords
  refine ⟨fun n h => ?_, by decide, by decide, by decide, fun line comment => ?_⟩
  · have pin := isWord_pinText h
    have handle := isWord_handleText h
    have variant := isWord_variantText
    have dst : isWord "dst=NULL".toList = true := by decide
    have word (x : BitVec 24) := congrArg Code.command (append_ofNat_eq_add x h)
    exact ⟨(parseCommand_create (by simp [pin, variant])).trans (parseCreate_pin_variant h .type11),
      (parseCommand_create (by simp [pin, variant])).trans (parseCreate_variant_pin h .type11),
      (parseCommand_create (by simp [pin, variant])).trans (parseCreate_pin_variant h .type22),
      (parseCommand_read (by simp [handle])).trans (parseRead_handle h),
      (parseCommand_create (by simp [pin, variant])).trans (parseCreate_variant_pin h .type22),
      (parseCommand_read (by simpa using ⟨handle, dst⟩)).trans (parseRead_handle_dst h),
      (parseCommand_read (by simpa using ⟨dst, handle⟩)).trans (parseRead_dst_handle h),
      (parseCommand_destroy (by simp [handle])).trans (parseDestroy_handle h),
      word _, word _, word _, word _, word _⟩
  · simp only [parseCommand, wordsOf_comment]

end Sys2Proof.Machine

/-!
PROOFS of the family spec/40_signal_waiter.md: a WAIT over a pin stream, measured and as the loop of its pseudocode (R90, R91,
R93).
-/

namespace Sys2Proof.Machine

/-! ## The end of a WAIT -/

@[simp] theorem afterWait_slots (p : Phase) (s : State) (c : Count) : (afterWait p s c).slots = s.slots := by
  cases p with
  | ackHigh | bitHigh => exact State.bitLoop_slots _
  | _ => rfl

/-- Only the WAIT of BIT_HIGH stores a bit when it ends (spec/41_frame_decoder.md R105, R106). -/
theorem afterWait_frame (p : Phase) (s : State) (c : Count) :
    (afterWait p s c).frame = if p = .bitHigh then s.frame.storeBit s.biti (bitOfCount s.params c) else s.frame := by
  cases p with
  | ackHigh | bitHigh => exact State.bitLoop_frame _
  | _ => rfl

/-- A WAIT that has ended leads to another phase of the acquisition (spec/41_frame_decoder.md R111). -/
theorem afterWait_phase {p : Phase} (hw : p.waiting = true) (s : State) (c : Count) :
    (afterWait p s c).phase ≠ p ∧ (afterWait p s c).phase ≠ .respond := by
  cases p with
  | ackLow | bitLow => exact ⟨nofun, nofun⟩
  | ackHigh | bitHigh => simp only [afterWait, State.storeBit, State.bitLoop_phase]; split <;> exact ⟨nofun, nofun⟩
  | idle | settle | startLow | startHigh | check | respond => cases hw

/-- `t` is what a last sample of the level `v` makes of a WAIT in state `s` that it ends: the acquisition goes on in another
phase, in BIT_HIGH with the bit that CNT decides. -/
structure State.WaitEnded (v : Level) (s t : State) : Prop where
  trace : t.trace = .get s.pinSel v :: s.trace
  slots : t.slots = s.slots
  leaves : t.phase ≠ s.phase
  goesOn : t.phase ≠ .respond
  frame : t.frame = if s.phase = .bitHigh then s.frame.storeBit s.biti (bitOfCount s.params s.cnt) else s.frame

/-- `t` is what a last sample of the level `v` makes of a WAIT in state `s` whose budget is used up: ACQUIRE fails
(spec/41_frame_decoder.md R100). -/
structure State.WaitTimedOut (v : Level) (s t : State) : Prop where
  trace : t.trace = .get s.pinSel v :: s.trace
  slots : t.slots = s.slots
  phase : t.phase = .respond
  rspArgs : t.rspArgs = ⟨.fail, none, none⟩

/-- A sample of the level that is not expected ends a WAIT. -/
theorem step_waitEnded {s : State} {v : Level} {l : List Level} (hw : s.phase.waiting = true) (hv : v ≠ s.exp)
    (h : s.offers (v :: l)) : ∃ t, step s = .next t ∧ s.WaitEnded v t := by
  obtain ⟨rfl, hr, -⟩ := State.offers_cons h
  obtain ⟨leaves, goesOn⟩ := afterWait_phase hw s.beginTick.sample s.cnt
  refine ⟨_, step_waiting hw hr, ?_⟩
  rw [State.waitTick_done (s := s.beginTick) (afterWait s.phase) hv]
  exact
    { trace := (State.nextTick_trace _).trans (afterWait_trace ..)
      slots := (State.nextTick_slots _).trans (afterWait_slots ..)
      leaves := by simpa using leaves
      goesOn := by simpa using goesOn
      frame := (State.nextTick_frame _).trans (afterWait_frame ..) }

/-- A sample of the expected level at CNT = BUD is a Timeout. -/
theorem step_waitTimedOut {s : State} {l : List Level} (hw : s.phase.waiting = true) (hc : s.cnt = s.bud)
    (h : s.offers (s.exp :: l)) : ∃ t, step s = .next t ∧ s.WaitTimedOut s.exp t := by
  obtain ⟨level, hr, -⟩ := State.offers_cons h
  refine ⟨_, step_waiting hw hr, ?_⟩
  rw [State.waitTick_timeout (s := s.beginTick) (afterWait s.phase) level hc, ← level]
  exact
    { trace := State.nextTick_trace _
      slots := State.nextTick_slots _
      phase := State.nextTick_phase _
      rspArgs := State.nextTick_rspArgs _ }

/-! ## A whole WAIT -/

/-- What a WAIT that goes on leaves alone. -/
theorem State.Waited.kept {v : Level} {n : Nat} {s t : State} (h : s.Waited v n t) :
    t.pinSel = s.pinSel ∧ s.SameAcquisition t ∧ t.trace = List.replicate n (.get s.pinSel v) ++ s.trace := by
  obtain ⟨_, _, _, _, rfl⟩ := h
  exact ⟨rfl, ⟨rfl, rfl, rfl, rfl, rfl⟩, rfl⟩

/-- From count 0, `n` samples of the expected level within the budget and one of the other end the WAIT in its `n + 1`th tick
(spec/40_signal_waiter.md R90). -/
theorem runFor_waitEnded {n : Nat} {s : State} {l : List Level} (hw : s.phase.waiting = true) (hc : s.cnt = 0#7)
    (hb : n ≤ s.bud.toNat) (h : s.offers (List.replicate n s.exp ++ (!s.exp) :: l)) :
    ∃ t u, runFor n s = some t ∧ s.Waited s.exp n t ∧ step t = .next u ∧ t.WaitEnded (!s.exp) u := by
  obtain ⟨t, ht, later, waited⟩ := runFor_waited hw rfl (by simpa [hc] using hb) h
  obtain ⟨phase, exp, -, -⟩ := waited.wait
  obtain ⟨u, hu, ended⟩ := step_waitEnded (phase ▸ hw) (exp ▸ Bool.not_ne_self s.exp) later
  exact ⟨t, u, ht, waited, hu, ended⟩

/-- From count 0, budget + 1 samples of the expected level make the WAIT fail in the tick of the last of them
(spec/40_signal_waiter.md R90, R91). -/
theorem runFor_waitTimedOut {s : State} {l : List Level} (hw : s.phase.waiting = true) (hc : s.cnt = 0#7)
    (h : s.offers (List.replicate (s.bud.toNat + 1) s.exp ++ l)) :
    ∃ u, runFor (s.bud.toNat + 1) s = some u ∧ u.phase = .respond ∧ u.rspArgs = ⟨.fail, none, none⟩ ∧ u.slots = s.slots ∧
      u.trace = List.replicate (s.bud.toNat + 1) (.get s.pinSel s.exp) ++ s.trace := by
  rw [List.replicate_succ', List.append_assoc] at h
  obtain ⟨t, ht, later, waited⟩ := runFor_waited hw rfl (by simp [hc]) h
  obtain ⟨phase, exp, bud, cnt⟩ := waited.wait
  obtain ⟨pin, same, trace⟩ := waited.kept
  have usedUp : t.cnt = t.bud := by rw [cnt, bud, hc, BitVec.zero_add, BitVec.ofNat_toNat, BitVec.setWidth_eq]
  obtain ⟨u, hu, failed⟩ := step_waitTimedOut (phase ▸ hw) usedUp (exp ▸ later)
  refine ⟨u, (runFor_add_of_runFor ht).trans (runFor_one_of_step hu), failed.phase, failed.rspArgs,
    failed.slots.trans same.slots, ?_⟩
  rw [failed.trace, trace, pin, exp, List.replicate_succ, List.cons_append]

/-- Settles O34: the WAIT goes on for the `n` samples, and the next one ends it or, at the budget, makes it fail. -/
theorem waitMeasuresTheLevel : Obligations.WaitMeasuresTheLevel := by
  unfold Obligations.WaitMeasuresTheLevel
  rintro s e b hw - - rfl rfl hc
  refine ⟨fun n hn h => ?_, fun h => runFor_waitTimedOut hw hc (l := []) (by simpa using h)⟩
  obtain ⟨t, u, ht, waited, hu, ended⟩ := runFor_waitEnded hw hc hn h
  obtain ⟨phase, -, -, cnt⟩ := waited.wait
  obtain ⟨pin, same, trace⟩ := waited.kept
  have count : t.cnt.toNat = n := by
    rw [cnt, hc, BitVec.zero_add, BitVec.toNat_ofNat, Nat.mod_eq_of_lt (hn.trans_lt s.bud.isLt)]
  exact ⟨t, u, ht, phase, count, same.frame, same.biti, trace, hu, pin ▸ ended.trace, ended.slots.trans same.slots,
    phase ▸ ended.leaves, ended.goesOn⟩

/-! ## The loop of the pseudocode -/

/-- The streams on which WAIT's loop ends: samples of the expected level within the budget and one of the other, or one more
sample of the expected level than the budget (spec/40_signal_waiter.md R90). -/
theorem waitOn_cases {e : Level} {b c : Nat} {levels rest : List Level} {r : Option Nat} (hc : c ≤ b)
    (h : waitOn e b c levels = some (r, rest)) :
    (∃ n, c + n ≤ b ∧ r = some (c + n) ∧ levels = List.replicate n e ++ (!e) :: rest) ∨
      (r = none ∧ levels = List.replicate (b - c + 1) e ++ rest) := by
  induction levels generalizing c with
  | nil => cases h
  | cons v levels ih =>
    unfold waitOn at h
    split at h
    case isTrue changed =>
      cases h
      exact .inl ⟨0, hc, rfl, by simp [Bool.eq_not.mpr changed]⟩
    case isFalse same =>
      obtain rfl := not_not.mp same
      split at h
      case isTrue usedUp =>
        cases h
        exact .inr ⟨rfl, by simp [usedUp]⟩
      case isFalse below =>
        obtain ⟨n, hn, rfl, rfl⟩ | ⟨rfl, rfl⟩ := ih (by omega) h
        · exact .inl ⟨n + 1, by omega, by rw [Nat.add_right_comm, Nat.add_assoc], rfl⟩
        · have shift : b - c = b - (c + 1) + 1 := by omega
          exact .inr ⟨rfl, by rw [shift]; rfl⟩

/-- Settles O35: a stream on which the loop ends is a WAIT measured within its budget or one that times out. -/
theorem waitFollowsItsLoop : Obligations.WaitFollowsItsLoop := by
  unfold Obligations.WaitFollowsItsLoop
  intro s levels rest r hw _ _ hc h hloop
  obtain ⟨n, hn, rfl, rfl⟩ | ⟨rfl, rfl⟩ := waitOn_cases (Nat.zero_le _) hloop
  · rw [Nat.zero_add] at hn ⊢
    obtain ⟨t, u, ht, waited, hu, ended⟩ := runFor_waitEnded hw hc hn h
    obtain ⟨phase, -, -, cnt⟩ := waited.wait
    obtain ⟨pin, same, trace⟩ := waited.kept
    have taken : (List.replicate n s.exp ++ (!s.exp) :: rest).length - rest.length = n + 1 := by simp; omega
    have bit : bitOfCount s.params t.cnt = decide (s.params.tOne.toNat < n) := by
      rw [cnt, hc, BitVec.zero_add, bitOfCount_ofNat (hn.trans_lt s.bud.isLt)]
    rw [taken]
    refine ⟨u, (runFor_add_of_runFor ht).trans (runFor_one_of_step hu), ended.slots.trans same.slots, ?_, ?_, nofun⟩
    · rw [ended.trace, trace, pin]
      simp [List.take_append]
    · rintro _ ⟨⟩
      refine ⟨hn, phase ▸ ended.leaves, ended.goesOn, ?_⟩
      rw [ended.frame, phase, same.frame, same.biti, same.params, bit]
  · obtain ⟨u, hu, respond, args, slots, trace⟩ := runFor_waitTimedOut hw hc h
    have taken : (List.replicate (s.bud.toNat - 0 + 1) s.exp ++ rest).length - rest.length = s.bud.toNat + 1 := by simp
    rw [taken]
    refine ⟨u, hu, slots, ?_, nofun, fun _ => ⟨respond, args⟩⟩
    simp [trace]

end Sys2Proof.Machine

/-!
PROOFS of the family spec/41_frame_decoder.md: the start signal (R101, R102), one tick of a WAIT's phase (R103, R104), the bit
decision and its store (R105, R106), CHECK (R107, R108), the phase graph (R111), the number of WAITs (R112).
-/

namespace Sys2Proof.Machine

/-! ## The ticks of the start signal -/

theorem execPhaseStartLow_first {s : State} {c : Slot} (hc : s.slots[s.h.toNat]? = some c) (hh : s.holdc = s.params.tStartLow)
    (hv : c.cfgVar = .type11) : execPhaseStartLow s = .next (s.startLowFirst c) := by
  simp [execPhaseStartLow, State.slot?, hc, hh, hv]

theorem execPhaseStartLow_later {s : State} {c : Slot} (hc : s.slots[s.h.toNat]? = some c)
    (hh : s.holdc ≠ s.params.tStartLow) : execPhaseStartLow s = .next s.startLowTick := by
  simp [execPhaseStartLow, State.slot?, hc, hh]

/-- Settles O26: the variant is looked at before anything is driven. -/
theorem startTypeTwentyTwoIsRefused : Obligations.StartTypeTwentyTwoIsRefused := by
  unfold Obligations.StartTypeTwentyTwoIsRefused
  intro s c hc hv hh
  simp [exec, execPhaseStartLow, State.slot?, hc, hv, hh]

theorem State.startLowTick_last {s : State} (h : s.holdc.toNat ≤ 1) : s.startLowTick = s.enterStartHigh := if_pos h

theorem State.startLowTick_held {s : State} (h : 1 < s.holdc.toNat) : s.startLowTick = s.holdTick := if_neg h.not_ge

theorem State.startHighTick_last {s : State} (h : s.holdc = 0#20) : s.startHighTick = (s.pinDir false).enterAckLow := if_pos h

theorem State.startHighTick_held {s : State} (h : s.holdc ≠ 0#20) : s.startHighTick = s.holdTick := if_neg h

theorem State.driveLow_eq (s : State) (c : Slot) :
    s.driveLow c = { s with pinSel := c.cfgPin, pinOe := true, pinOut := false,
                            trace := .hold s.params.tStartLow.toNat :: .set c.cfgPin false :: .dir c.cfgPin true :: s.trace } :=
  rfl

theorem State.driveHigh_eq (s : State) :
    s.driveHigh = { s with pinOut := true, trace := .hold s.params.tStartHigh.toNat :: .set s.pinSel true :: s.trace } :=
  rfl

/-- The drive of a start signal whose low part takes no tick. -/
theorem State.driveLow_driveHigh_eq (s : State) (c : Slot) :
    (s.driveLow c).enterStartHigh.driveHigh =
      { s with pinSel := c.cfgPin, pinOe := true, pinOut := true, phase := .startHigh, holdc := s.params.tStartHigh,
               trace := .hold s.params.tStartHigh.toNat :: .set c.cfgPin true :: .hold s.params.tStartLow.toNat ::
                 .set c.cfgPin false :: .dir c.cfgPin true :: s.trace } :=
  rfl

/-- Settles O24: the first tick drives the line low, and the hold's last tick enters START_HIGH; with no hold the two fall
together, and START_HIGH's first tick with them. -/
theorem startLowDrivesAndHolds : Obligations.StartLowDrivesAndHolds := by
  unfold Obligations.StartLowDrivesAndHolds
  intro s c hc
  have first (hh : s.holdc = s.params.tStartLow) (hv : c.cfgVar = .type11) :
      exec .phaseStartLow s = .next (s.startLowFirst c) := execPhaseStartLow_first hc hh hv
  have driven (hh : s.holdc = s.params.tStartLow) (hv : c.cfgVar = .type11) (held : s.holdc ≠ 0#20) :
      exec .phaseStartLow s = .next (s.driveLow c).startLowTick :=
    (first hh hv).trans (congrArg _ (if_neg (hh ▸ held)))
  have skipped (hh : s.holdc = s.params.tStartLow) (hv : c.cfgVar = .type11) (zero : s.holdc = 0#20) :
      exec .phaseStartLow s = .next (s.driveLow c).enterStartHigh.driveHigh.startHighTick :=
    (first hh hv).trans (congrArg _ (if_pos (hh ▸ zero)))
  have later (hh : s.holdc ≠ s.params.tStartLow) : exec .phaseStartLow s = .next s.startLowTick :=
    execPhaseStartLow_later hc hh
  refine ⟨fun hh more hv => ?_, fun hh zero hv high => ?_, fun hh zero hv high => ?_, fun hh one hv => ?_,
    fun hh more => ?_, fun hh last => ?_⟩
  · rw [driven hh hv fun h0 => by simp [h0] at more, State.startLowTick_held (s := s.driveLow c) more, State.driveLow_eq, ← hh]
    rfl
  · rw [skipped hh hv zero, State.startHighTick_held (s := (s.driveLow c).enterStartHigh.driveHigh) high,
      State.driveLow_driveHigh_eq, ← hh, zero]
    rfl
  · rw [skipped hh hv zero, State.startHighTick_last (s := (s.driveLow c).enterStartHigh.driveHigh) high,
      State.driveLow_driveHigh_eq, ← hh, zero, high]
    rfl
  · rw [driven hh hv fun h0 => by simp [h0] at one, State.startLowTick_last (s := s.driveLow c) (by simp [State.driveLow, one])]
    rfl
  · rw [later hh, State.startLowTick_held more]
    rfl
  · rw [later hh, State.startLowTick_last last]
    rfl

/-- Settles O25: the first tick drives the line high, and the tick that finds the hold over releases it. -/
theorem startHighDrivesAndReleases : Obligations.StartHighDrivesAndReleases := by
  unfold Obligations.StartHighDrivesAndReleases
  intro s
  have first (hh : s.holdc = s.params.tStartHigh) : exec .phaseStartHigh s = .next s.driveHigh.startHighTick := if_pos hh
  have later (hh : s.holdc ≠ s.params.tStartHigh) : exec .phaseStartHigh s = .next s.startHighTick := if_neg hh
  refine ⟨fun hh held => ?_, fun hh last => ?_, fun hh held => ?_, fun hh last => ?_⟩
  · rw [first hh, State.startHighTick_held (s := s.driveHigh) held, State.driveHigh_eq, ← hh]
    rfl
  · rw [first hh, State.startHighTick_last (s := s.driveHigh) last, State.driveHigh_eq, ← hh, last]
    rfl
  · rw [later hh, State.startHighTick_held held]
    rfl
  · rw [later hh, State.startHighTick_last last]
    rfl

/-! ## The start signal as a whole -/

/-- Ticks without a reset whose levels are given form a pin stream. -/
theorem State.exists_offers {s : State} {n : Nat} (hl : n ≤ s.inputs.length + 1)
    (hr : ∀ i ∈ s.nextInputs n, i.rst = false) : ∃ levels, levels.length = n ∧ s.offers levels := by
  have len : (s.nextInputs n).length = n := by simpa [State.nextInputs] using hl
  exact ⟨(s.nextInputs n).map Inputs.pinIn, by simpa using len, by simpa [State.offers, len] using hr⟩

/-- What START drives at the beginning of a tick once it has driven the line low: high in START_HIGH's first tick. -/
def State.startDrive (s : State) : State :=
  if s.phase = .startHigh ∧ s.holdc = s.params.tStartHigh then s.driveHigh else s

/-- What a tick of the start signal does with its hold: count it, go on to START_HIGH or release the line. -/
def State.startCount (s : State) : State := if s.phase = .startLow then s.startLowTick else s.startHighTick

theorem State.startCount_of_startLow {s : State} (hp : s.phase = .startLow) : s.startCount = s.startLowTick := if_pos hp

theorem State.startCount_of_startHigh {s : State} (hp : s.phase = .startHigh) : s.startCount = s.startHighTick :=
  if_neg (by simp [hp])

/-- What START's first tick counts on when it has driven the line low: a hold of length 0 is nothing (spec/20_memory.md R45), and
START_HIGH is then entered at once. -/
def State.startEntry (s : State) (c : Slot) : State :=
  if s.params.tStartLow = 0#20 then (s.driveLow c).enterStartHigh else s.driveLow c

theorem State.startLowFirst_eq {s : State} (hp : s.phase = .startLow) (c : Slot) :
    s.startLowFirst c = (s.startEntry c).startDrive.startCount := by
  unfold State.startEntry
  obtain ⟨hl, h⟩ | ⟨hl, h⟩ := s.startLowFirst_cases c
  · rw [h, if_pos hl]
    have first : (s.driveLow c).enterStartHigh.startDrive = (s.driveLow c).enterStartHigh.driveHigh := if_pos ⟨rfl, rfl⟩
    rw [first]
    rfl
  · have low : (s.driveLow c).startDrive = s.driveLow c := if_neg fun h => by simp [State.driveLow, hp] at h
    rw [h, if_neg hl, low, State.startCount_of_startLow (s := s.driveLow c) hp]

theorem execPhaseStartHigh_eq {s : State} (hp : s.phase = .startHigh) :
    execPhaseStartHigh s = .next s.startDrive.startCount := by
  unfold State.startDrive
  obtain ⟨hh, h⟩ | ⟨hh, h⟩ := execPhaseStartHigh_cases s
  · rw [h, if_pos ⟨hp, hh⟩, State.startCount_of_startHigh (s := s.driveHigh) hp]
    rfl
  · rw [h, if_neg fun h => hh h.2, State.startCount_of_startHigh hp]

theorem State.startEntry_inputs (s : State) (c : Slot) : (s.startEntry c).inputs = s.inputs := by
  unfold State.startEntry
  split <;> rfl

theorem State.startDrive_inputs (s : State) : s.startDrive.inputs = s.inputs := by
  unfold State.startDrive
  split <;> rfl

theorem State.startCount_inputs (s : State) : s.startCount.inputs = s.inputs := by
  unfold State.startCount
  split
  · obtain ⟨-, h⟩ | ⟨-, h⟩ := s.startLowTick_cases <;> rw [h] <;> rfl
  · obtain ⟨-, h⟩ | ⟨-, h⟩ := s.startHighTick_cases <;> rw [h] <;> rfl

/-- The events of the start signal's first `k` ticks while it drives the line, latest first (spec/41_frame_decoder.md R101). -/
def startEvents (p : Params) (c : Slot) (k : Nat) : List Event :=
  (if p.tStartLow.toNat < k then [.hold p.tStartHigh.toNat, .set c.cfgPin true] else []) ++
    [.hold p.tStartLow.toNat, .set c.cfgPin false, .dir c.cfgPin true]

/-- `t` drives the line in the start signal that `s` enters for slot `c`: `begun` of its ticks have begun, which says what is
driven, and `ended` have ended, which says how much of its holds is left (spec/41_frame_decoder.md R101). -/
structure State.Driven (s : State) (c : Slot) (begun ended : Nat) (t : State) : Prop where
  params : t.params = s.params
  slots : t.slots = s.slots
  h : t.h = s.h
  pinSel : t.pinSel = c.cfgPin
  pinOe : t.pinOe = true
  pinOut : t.pinOut = decide (s.params.tStartLow.toNat < begun)
  trace : t.trace = startEvents s.params c begun ++ s.trace
  low : ended < s.params.tStartLow.toNat → t.phase = .startLow ∧ t.holdc.toNat = s.params.tStartLow.toNat - ended
  high : s.params.tStartLow.toNat ≤ ended → t.phase = .startHigh ∧ t.holdc.toNat = s.params.startTicks - ended

theorem State.startEntry_driven {s : State} (hp : s.phase = .startLow) (hh : s.holdc = s.params.tStartLow) (c : Slot) :
    s.Driven c 0 0 (s.startEntry c) := by
  unfold State.startEntry
  split
  case isTrue zero =>
    have zero : s.params.tStartLow.toNat = 0 := congrArg BitVec.toNat zero
    exact ⟨rfl, rfl, rfl, rfl, rfl, by simp [State.enterStartHigh, State.driveLow], rfl, fun h => by omega,
      fun _ => ⟨rfl, by simp [State.enterStartHigh, State.driveLow, Params.startTicks, zero]⟩⟩
  case isFalse positive =>
    have positive : s.params.tStartLow.toNat ≠ 0 := fun h => positive (BitVec.eq_of_toNat_eq h)
    exact ⟨rfl, rfl, rfl, rfl, rfl, by simp [State.driveLow], rfl, fun _ => ⟨hp, congrArg BitVec.toNat hh⟩,
      fun h => by omega⟩

section
variable {s t : State} {c : Slot} {k : Nat}

theorem State.Driven.beginTick {b : Nat} (h : s.Driven c b k t) : s.Driven c b k t.beginTick := { h with }

theorem State.Driven.nextTick {b : Nat} (h : s.Driven c b k t) : s.Driven c b k t.nextTick := by
  obtain ⟨i, l, d, e⟩ := t.nextTick_eq
  rw [e]
  exact { h with }

/-- The drive of a tick: the line goes high in the tick after T_START_LOW ticks, and stays as it is in every other. -/
theorem State.Driven.startDrive (h : s.Driven c k k t) (hk : k ≤ s.params.startTicks) : s.Driven c (k + 1) k t.startDrive := by
  have low := h.low
  have high := h.high
  unfold State.startDrive Params.startTicks at *
  split
  case isTrue first =>
    obtain ⟨phase, full⟩ := first
    have start : k = s.params.tStartLow.toNat := by
      rw [full, h.params] at high
      simp only [phase, reduceCtorEq, false_and, imp_false] at low
      omega
    refine { h with pinOut := by simp [start, State.driveHigh], trace := ?_ }
    simp [State.driveHigh, h.trace, h.params, h.pinSel, startEvents, start]
  case isFalse later =>
    have same : s.params.tStartLow.toNat < k ↔ s.params.tStartLow.toNat < k + 1 := by
      refine ⟨fun _ => by omega, fun hl => Nat.lt_of_le_of_ne (by omega) fun start => later ?_⟩
      obtain ⟨phase, holdc⟩ := high start.le
      exact ⟨phase, BitVec.eq_of_toNat_eq (by rw [holdc, h.params]; omega)⟩
    refine { h with pinOut := h.pinOut.trans (by simp only [same]), trace := h.trace.trans (by simp only [startEvents, same]) }

/-- The hold of a tick that is not the last: the line stays driven as it is. -/
theorem State.Driven.startCount (h : s.Driven c (k + 1) k t) (hk : k < s.params.startTicks) :
    s.Driven c (k + 1) (k + 1) t.startCount := by
  obtain below | above := Nat.lt_or_ge k s.params.tStartLow.toNat
  · obtain ⟨phase, holdc⟩ := h.low below
    rw [State.startCount_of_startLow phase]
    obtain ⟨last, e⟩ | ⟨more, e⟩ := t.startLowTick_cases <;> rw [e]
    · exact { h with
        low := fun _ => by omega
        high := fun _ => ⟨rfl, by simp [State.enterStartHigh, Params.startTicks, h.params]; omega⟩ }
    · have left : (t.holdc - 1#20).toNat = t.holdc.toNat - 1 := holdc_sub_one_toNat fun h0 => by simp [h0] at more
      exact { h with
        low := fun _ => ⟨phase, left.trans (by omega)⟩
        high := fun _ => by omega }
  · obtain ⟨phase, holdc⟩ := h.high above
    rw [State.startCount_of_startHigh phase]
    obtain ⟨last, e⟩ | ⟨more, e⟩ := t.startHighTick_cases <;> rw [e]
    · simp only [last, BitVec.toNat_zero] at holdc
      omega
    · exact { h with
        low := fun _ => by omega
        high := fun _ => ⟨phase, (holdc_sub_one_toNat more).trans (by omega)⟩ }

/-- The tick after both holds releases the line and goes on to ACK_LOW. -/
theorem State.Driven.startCount_releases (h : s.Driven c (k + 1) k t) (hk : k = s.params.startTicks) :
    t.startCount = (t.pinDir false).enterAckLow := by
  obtain ⟨phase, holdc⟩ := h.high (by simp [hk, Params.startTicks])
  rw [State.startCount_of_startHigh phase]
  exact State.startHighTick_last (BitVec.eq_of_toNat_eq (holdc.trans (by simp [hk])))

/-- A tick of the start signal after its first one. -/
theorem State.Driven.step (h : s.Driven c k k t) (hk : 1 ≤ k) (hc : s.slots[s.h.toNat]? = some c) (hr : t.inp.rst = false) :
    step t = .next t.beginTick.startDrive.startCount.nextTick := by
  refine step_of_exec hr ?_
  obtain below | above := Nat.lt_or_ge k s.params.tStartLow.toNat
  · obtain ⟨phase, holdc⟩ := h.low below
    have later : t.holdc ≠ t.params.tStartLow := fun e => by rw [e, h.params] at holdc; omega
    have slot : t.slots[t.h.toNat]? = some c := by rw [h.slots, h.h, hc]
    have idle : t.beginTick.startDrive = t.beginTick := if_neg fun e => by simp [phase] at e
    rw [phase, idle, State.startCount_of_startLow (s := t.beginTick) phase]
    exact execPhaseStartLow_later (s := t.beginTick) slot later
  · obtain ⟨phase, -⟩ := h.high above
    rw [phase]
    exact execPhaseStartHigh_eq (s := t.beginTick) phase

/-- The tick that enters the start signal. -/
theorem step_startEntry (hp : s.phase = .startLow) (hh : s.holdc = s.params.tStartLow) (hc : s.slots[s.h.toNat]? = some c)
    (hv : c.cfgVar = .type11) (hr : s.inp.rst = false) :
    step s = .next (s.beginTick.startEntry c).startDrive.startCount.nextTick := by
  refine step_of_exec hr ?_
  rw [hp, ← State.startLowFirst_eq (s := s.beginTick) hp]
  exact execPhaseStartLow_first (s := s.beginTick) hc hh hv

/-- Tick by tick, the start signal drives the line as `State.Driven` says; `t` is the state in the tick after `k` of its ticks,
when it has driven and its hold is still to be counted. -/
theorem runFor_startDrive {levels : List Level} (hp : s.phase = .startLow) (hh : s.holdc = s.params.tStartLow)
    (hc : s.slots[s.h.toNat]? = some c) (hv : c.cfgVar = .type11) (hk : k ≤ s.params.startTicks) (hl : k < levels.length)
    (h : s.offers levels) :
    ∃ t, runFor (k + 1) s = some t.startCount.nextTick ∧ s.Driven c (k + 1) k t ∧
      t.startCount.nextTick.offers (levels.drop (k + 1)) := by
  induction k with
  | zero =>
    obtain ⟨v, levels, rfl⟩ := List.exists_cons_of_length_pos hl
    obtain ⟨-, hr, later⟩ := State.offers_cons h
    refine ⟨_, runFor_one_of_step (step_startEntry hp hh hc hv hr), ?_, later _ ?_⟩
    · exact State.Driven.startDrive { State.startEntry_driven (s := s.beginTick) hp hh c with } (Nat.zero_le _)
    · rw [State.startCount_inputs, State.startDrive_inputs, State.startEntry_inputs, State.beginTick_inputs]
  | succ k ih =>
    obtain ⟨t, ht, driven, rest⟩ := ih (by omega) (by omega)
    have driven := (driven.startCount (by omega)).nextTick
    rw [List.drop_eq_getElem_cons hl] at rest
    obtain ⟨-, hr, later⟩ := State.offers_cons rest
    refine ⟨_, (runFor_add_of_runFor ht).trans (runFor_one_of_step (driven.step (by omega) hc hr)),
      driven.beginTick.startDrive (by omega), later _ ?_⟩
    rw [State.startCount_inputs, State.startDrive_inputs, State.beginTick_inputs]

end

/-- Settles O27: the ticks that drive the line are the first T_START_LOW + T_START_HIGH (`State.Driven`), and the next one
releases it. -/
theorem startSignalTakesTwentyThousandFortyTicks : Obligations.StartSignalTakesTwentyThousandFortyTicks := by
  unfold Obligations.StartSignalTakesTwentyThousandFortyTicks
  refine ⟨rfl, fun s c hp hh hc hv hl hr => ?_⟩
  obtain ⟨levels, len, offers⟩ := State.exists_offers (Nat.succ_le_succ hl) hr
  refine ⟨fun k h1 hk => ?_, ?_⟩
  · obtain ⟨j, rfl⟩ := Nat.exists_eq_add_of_le' h1
    obtain ⟨t, ht, driven, -⟩ := runFor_startDrive hp hh hc hv (k := j) (by omega) (by omega) offers
    have driven := (driven.startCount hk).nextTick
    exact ⟨_, ht, driven.pinSel, driven.pinOe, driven.pinOut⟩
  · obtain ⟨t, ht, driven, -⟩ := runFor_startDrive hp hh hc hv le_rfl (by omega) offers
    rw [driven.startCount_releases rfl] at ht
    have high : s.params.tStartLow.toNat < s.params.startTicks + 1 := by unfold Params.startTicks; omega
    refine ⟨_, ht, ?_⟩
    simp [State.enterAckLow, driven.pinOut, driven.slots, driven.trace, driven.pinSel, high, startEvents]

/-! ## One tick of a WAIT's phase -/

section
variable {p : Phase} {s : State}

/-- A sample at the expected level, below the budget, counts. -/
theorem exec_waiting_running (hw : p.waiting = true) (he : s.inp.pinIn = s.exp) (hc : s.cnt ≠ s.bud) :
    exec p.instr s = .next { s with cnt := s.cnt + 1#7, trace := .get s.pinSel s.inp.pinIn :: s.trace } :=
  (exec_waiting hw s).trans (congrArg _ (State.waitTick_running _ he hc))

/-- A sample at the other level ends the WAIT. -/
theorem exec_waiting_done (hw : p.waiting = true) (he : s.inp.pinIn ≠ s.exp) :
    exec p.instr s = .next (afterWait p s.sample s.cnt) :=
  (exec_waiting hw s).trans (congrArg _ (State.waitTick_done _ he))

/-- A sample at the expected level, at the budget, is a Timeout. -/
theorem exec_waiting_timeout (hw : p.waiting = true) (he : s.inp.pinIn = s.exp) (hc : s.cnt = s.bud) :
    ∃ t, exec p.instr s = .next t ∧ FailedFrom s t :=
  ⟨s.sample.acquireFail, (exec_waiting hw s).trans (congrArg _ (State.waitTick_timeout _ he hc)),
    by simp [FailedFrom, SameOutsideFrame, State.acquireFail, State.abort, State.pinLevel]⟩

end

theorem State.bitLoop_of_lt {s : State} (h : s.biti < s.params.nBits) : s.bitLoop = s.enterBitLow :=
  if_pos (moreBits_iff.mpr h)

theorem State.bitLoop_of_not_lt {s : State} (h : ¬ s.biti < s.params.nBits) : s.bitLoop = s.goto .check :=
  if_neg fun more => h (moreBits_iff.mp more)

/-- Settles O28: both phases are WAITs, and the second one leads to the head of the bit loop. -/
theorem handshakeTickOutcomes : Obligations.HandshakeTickOutcomes := by
  unfold Obligations.HandshakeTickOutcomes
  intro s
  refine ⟨?_, ?_, fun he => exec_waiting_done (p := .ackLow) rfl he, fun he bits => ?_, fun he noBits => ?_⟩
  · rintro i (rfl | rfl)
    · exact exec_waiting_running (p := .ackLow) rfl
    · exact exec_waiting_running (p := .ackHigh) rfl
  · rintro i (rfl | rfl)
    · exact exec_waiting_timeout (p := .ackLow) rfl
    · exact exec_waiting_timeout (p := .ackHigh) rfl
  · have more : (0#6) < s.params.nBits := by bv_omega
    exact (exec_waiting_done (p := .ackHigh) rfl he).trans
      (congrArg _ (State.bitLoop_of_lt (s := { s.sample with biti := 0#6 }) more))
  · have last : ¬ (0#6) < s.params.nBits := by simp [noBits]
    exact (exec_waiting_done (p := .ackHigh) rfl he).trans
      (congrArg _ (State.bitLoop_of_not_lt (s := { s.sample with biti := 0#6 }) last))

/-! ## The bit of a count -/

theorem bitOfCount_eq (p : Params) (c : Count) : bitOfCount p c = decide (p.tOne.toNat < c.toNat) := rfl

/-- Settles O29: both phases are WAITs, and the store of the bit leads to the head of the bit loop with BITI one higher. -/
theorem bitTickOutcomes : Obligations.BitTickOutcomes := by
  unfold Obligations.BitTickOutcomes
  intro s
  refine ⟨?_, ?_, fun he => exec_waiting_done (p := .bitLow) rfl he, fun he hi => ?_, fun he hi => ?_⟩
  · rintro i (rfl | rfl)
    · exact exec_waiting_running (p := .bitLow) rfl
    · exact exec_waiting_running (p := .bitHigh) rfl
  · rintro i (rfl | rfl)
    · exact exec_waiting_timeout (p := .bitLow) rfl
    · exact exec_waiting_timeout (p := .bitHigh) rfl
  · have more : s.biti + 1#6 < s.params.nBits := by bv_omega
    exact (exec_waiting_done (p := .bitHigh) rfl he).trans
      (congrArg _ (State.bitLoop_of_lt (s := { s.sample with frame := _, biti := s.biti + 1#6 }) more))
  · have last : s.biti + 1#6 = s.params.nBits := by bv_omega
    rw [← last]
    exact (exec_waiting_done (p := .bitHigh) rfl he).trans
      (congrArg _ (State.bitLoop_of_not_lt (s := { s.sample with frame := _, biti := s.biti + 1#6 }) (by simp [last])))

/-- Settles O30: the decision is the comparison of R105, it is the bit BIT_HIGH stores, and a Timeout stores none. -/
theorem countAboveThresholdIsOne : Obligations.CountAboveThresholdIsOne := by
  unfold Obligations.CountAboveThresholdIsOne
  refine ⟨rfl, rfl, rfl, fun p c => ?_, fun s he => ?_, ?_⟩
  · simp [bitOfCount_eq]
  · exact ⟨_, exec_waiting_done (p := .bitHigh) rfl he, afterWait_frame .bitHigh s.sample s.cnt⟩
  · rintro s i (⟨rfl, -⟩ | ⟨rfl, -⟩)
    · exact exec_waiting_timeout (p := .bitLow) rfl
    · exact exec_waiting_timeout (p := .bitHigh) rfl

/-! ## The bytes of a frame -/

/-- The stores of the positions from `i` on, one after the other. -/
theorem RawFrame.foldl_storeBit (f : RawFrame) (bits : Nat → Bool) (i n : Nat) :
    (List.range' i n).foldl (fun g j => g.storeBit (BitVec.ofNat 6 j) (bits j)) f =
      f.storeBits (BitVec.ofNat 6 i) ((List.range' i n).map bits) := by
  induction n generalizing f i with
  | zero => rfl
  | succ n ih =>
    rw [List.range'_succ, List.foldl_cons, List.map_cons, RawFrame.storeBits, ih, BitVec.ofNat_add]

/-- Eight bits shifted in from the right: the last one is bit 0. -/
theorem getLsbD_shiftIn (bits : Nat → Bool) (n : Nat) {k : Nat} (hk : k < 8) :
    ((List.range n).foldl (fun (v : Byte) j => (v <<< 1) ||| (BitVec.ofBool (bits j)).setWidth 8) 0#8).getLsbD k =
      (decide (k < n) && bits (n - 1 - k)) := by
  induction n generalizing k with
  | zero => simp
  | succ n ih =>
    rw [List.range_succ, List.foldl_append]
    simp only [List.foldl_cons, List.foldl_nil, BitVec.getLsbD_or, BitVec.getLsbD_shiftLeft, BitVec.getLsbD_setWidth,
      BitVec.getLsbD_ofBool, hk]
    cases k with
    | zero => simp
    | succ k => simp [ih (k := k) (by omega), Nat.sub_sub, Nat.add_comm 1 k]

/-- After the stores of positions 0 to 39 every position has its bit. -/
theorem RawFrame.bitAt_foldl_storeBit (f : RawFrame) (bits : Nat → Bool) {j : Nat} (hj : j < 40) :
    ((List.range 40).foldl (fun g i => g.storeBit (BitVec.ofNat 6 i) (bits i)) f).bitAt j = some (bits j) := by
  rw [List.range_eq_range', RawFrame.foldl_storeBit, RawFrame.bitAt_storeBits_zero (by simp) hj]
  simp [hj]

/-- A byte of the frame is its eight positions, shifted in from the right (spec/41_frame_decoder.md R106). -/
theorem RawFrame.byte?_of_bitAt {f : RawFrame} {bits : Nat → Bool} (h : ∀ j < 40, f.bitAt j = some (bits j)) {n : Nat}
    (hn : n < 5) :
    f.byte? n =
      some ((List.range 8).foldl (fun (v : Byte) k => (v <<< 1) ||| (BitVec.ofBool (bits (8 * n + k))).setWidth 8) 0#8) := by
  obtain ⟨v, hv⟩ := f.exists_byte? hn
  rw [hv]
  refine congrArg some (BitVec.eq_of_getLsbD_eq fun k hk => ?_)
  have position := h (8 * n + (7 - k)) (by omega)
  have byte : (8 * n + (7 - k)) / 8 = n := by omega
  have bit : 7 - (8 * n + (7 - k)) % 8 = k := by omega
  rw [RawFrame.bitAt, byte, bit, hv, Option.map_some, Option.some.injEq] at position
  rw [getLsbD_shiftIn _ 8 hk, position]
  simp [hk]

/-- Settles O31: a store writes its own bit of its own byte, and 40 of them every position. -/
theorem storeBitWritesOneFrameBit : Obligations.StoreBitWritesOneFrameBit := by
  unfold Obligations.StoreBitWritesOneFrameBit
  refine ⟨fun f i b hi => ⟨?_, fun n hn other => ?_⟩, fun f bits => ?_⟩
  · obtain ⟨v, hv⟩ := f.exists_byte? (k := i.toNat / 8) (by omega)
    refine ⟨v, hv, setBit v (7 - i.toNat % 8) b, ?_, fun k hk => getLsbD_setBit hk b⟩
    rw [f.byte?_storeBit hi b (by omega), if_pos rfl, hv, Option.map_some]
  · rw [f.byte?_storeBit hi b hn, if_neg other]
  · have stored (j : Nat) (hj : j < 40) := f.bitAt_foldl_storeBit bits hj
    exact ⟨stored, fun n hn => RawFrame.byte?_of_bitAt stored hn⟩

/-! ## CHECK -/

theorem RawFrame.checksumOk_iff {f : RawFrame} :
    f.checksumOk = true ↔ f.frame4.toNat = (f.frame0.toNat + f.frame1.toNat + f.frame2.toNat + f.frame3.toNat) % 256 := by
  rw [RawFrame.checksumOk, beq_iff_eq, ← BitVec.toNat_inj]
  simp [RawFrame.sum]

/-- Settles O32: the two branches of CHECK, on the Reading that BUILD makes of the frame. -/
theorem checksumDecidesAcquisition : Obligations.ChecksumDecidesAcquisition := by
  unfold Obligations.ChecksumDecidesAcquisition
  intro s c hc
  obtain ⟨byte0, byte1, byte2, byte3⟩ := s.frame.build_bytes
  simp only [← RawFrame.checksumOk_iff, ne_eq]
  by_cases ok : s.frame.checksumOk = true
  · have passes : exec .phaseCheck s =
        .next ((s.putSlot s.h.toNat (c.stored s.frame.build)).discardFrame.respond ⟨.ok, none, some s.frame.build⟩) := by
      simp [exec, execPhaseCheck, ok, State.slot?, hc]
    exact ⟨_, s.frame.build, passes, rfl, rfl, by simp [SameOutsideFrame], byte0, byte1, byte2, byte3, fun _ => ⟨rfl, rfl⟩,
      fun no => absurd ok no⟩
  · exact ⟨s.acquireFail, s.frame.build, if_neg ok, rfl, rfl, by simp [SameOutsideFrame, State.acquireFail, State.abort],
      byte0, byte1, byte2, byte3, fun yes => absurd yes ok, fun _ => ⟨rfl, rfl⟩⟩

/-! ## The phase graph -/

theorem State.readSlot_phase (s : State) (c : Slot) : (s.readSlot c).phase = .respond ∨ (s.readSlot c).phase = .startLow := by
  obtain ⟨-, -, h⟩ | ⟨-, -, h⟩ | ⟨-, h⟩ := s.readSlot_cases c <;> rw [h]
  · exact .inl rfl
  · exact .inl rfl
  · exact .inr rfl

theorem execRead_phase {hp dp : Bool} {n : Nat} {s t : State} (h : execRead hp dp n s = .next t) :
    t.phase = .respond ∨ t.phase = .settle ∨ t.phase = .startLow := by
  obtain ⟨-, rfl⟩ | ⟨-, -, c, -, -, rfl⟩ := execRead_next h
  · exact .inl rfl
  · obtain ⟨-, e⟩ | ⟨-, e⟩ := State.readFrom_cases { s with h := BitVec.ofNat 8 n } c <;> rw [e]
    · exact .inr (.inl rfl)
    · exact (State.readSlot_phase _ c).imp_right .inr

theorem execPhaseIdle_phase {s t : State} (h : execPhaseIdle s = .next t) :
    t.phase = s.phase ∨ t.phase = .respond ∨ t.phase = .settle ∨ t.phase = .startLow := by
  obtain ⟨-, e⟩ | ⟨-, ⟨_, _, _, -, e⟩ | ⟨_, _, _, -, e⟩ | ⟨_, _, -, e⟩ | ⟨-, e⟩⟩ := execPhaseIdle_cases s <;> rw [e] at h
  · cases h; exact .inl rfl
  · obtain ⟨-, rfl⟩ | ⟨-, -, -, rfl⟩ | ⟨-, -, _, _, -, rfl⟩ := execCreate_next h <;> exact .inr (.inl rfl)
  · exact .inr (execRead_phase h)
  · obtain ⟨-, _, -, -, rfl⟩ := execDestroy_next h
    exact .inr (.inl rfl)
  · cases h; exact .inr (.inl rfl)

theorem execPhaseSettle_phase {s t : State} (h : execPhaseSettle s = .next t) :
    t.phase = s.phase ∨ t.phase = .respond ∨ t.phase = .startLow := by
  obtain ⟨-, rfl⟩ | ⟨-, c, -, rfl⟩ := execPhaseSettle_next h
  · exact .inl rfl
  · exact .inr (s.readNow.readSlot_phase c)

theorem State.startHighTick_phase (s : State) :
    s.startHighTick.phase = s.phase ∨ (s.startHighTick.phase = .ackLow ∧ s.holdc = 0#20) := by
  obtain ⟨hh, h⟩ | ⟨-, h⟩ := s.startHighTick_cases <;> rw [h]
  · exact .inr ⟨rfl, hh⟩
  · exact .inl rfl

theorem State.startLowTick_phase (s : State) : s.startLowTick.phase = s.phase ∨ s.startLowTick.phase = .startHigh := by
  obtain ⟨-, h⟩ | ⟨-, h⟩ := s.startLowTick_cases <;> rw [h]
  · exact .inr rfl
  · exact .inl rfl

/-- START_LOW's first tick can be the whole start signal only if neither of its holds takes a tick (spec/20_memory.md R45). -/
theorem execPhaseStartLow_phase {s t : State} (h : execPhaseStartLow s = .next t) :
    t.phase = s.phase ∨ t.phase = .startHigh ∨
      (t.phase = .ackLow ∧ s.params.tStartLow = 0#20 ∧ s.params.tStartHigh = 0#20) := by
  obtain ⟨c, -, ⟨-, -, rfl⟩ | ⟨-, rfl⟩⟩ := execPhaseStartLow_next h
  · obtain ⟨low, e⟩ | ⟨-, e⟩ := s.startLowFirst_cases c <;> rw [e]
    · obtain stays | ⟨leaves, high⟩ := (s.driveLow c).enterStartHigh.driveHigh.startHighTick_phase
      · exact .inr (.inl stays)
      · exact .inr (.inr ⟨leaves, low, high⟩)
    · exact (s.driveLow c).startLowTick_phase.imp_right .inl
  · exact s.startLowTick_phase.imp_right .inl

theorem execPhaseStartHigh_phase {s t : State} (h : execPhaseStartHigh s = .next t) :
    t.phase = s.phase ∨ t.phase = .ackLow := by
  obtain ⟨-, e⟩ | ⟨-, e⟩ := execPhaseStartHigh_cases s <;> cases e.symm.trans h
  · exact s.driveHigh.startHighTick_phase.imp_right And.left
  · exact s.startHighTick_phase.imp_right And.left

/-- A tick of a WAIT stays in its phase, goes on to what follows the WAIT, or fails. -/
theorem exec_waiting_phase {p : Phase} {s t : State} (hw : p.waiting = true) (h : exec p.instr s = .next t) :
    t.phase = s.phase ∨ t.phase = (afterWait p s.sample s.cnt).phase ∨ t.phase = .respond := by
  cases (exec_waiting hw s).symm.trans h
  obtain ⟨-, -, e⟩ | ⟨-, e⟩ | ⟨-, -, e⟩ := s.waitTick_cases (afterWait p) <;> rw [e]
  · exact .inl rfl
  · exact .inr (.inl rfl)
  · exact .inr (.inr rfl)

/-- With no bits the loop of spec/41_frame_decoder.md R100 has no turn. -/
theorem afterWait_ackHigh_phase (s : State) (c : Count) :
    (afterWait .ackHigh s c).phase = .bitLow ∨ ((afterWait .ackHigh s c).phase = .check ∧ s.params.nBits = 0#6) := by
  by_cases bits : (0#6) < s.params.nBits
  · exact .inl (congrArg State.phase (State.bitLoop_of_lt (s := { s with biti := 0#6 }) bits))
  · exact .inr ⟨congrArg State.phase (State.bitLoop_of_not_lt (s := { s with biti := 0#6 }) bits), by bv_omega⟩

theorem afterWait_bitHigh_phase (s : State) (c : Count) :
    (afterWait .bitHigh s c).phase = .bitLow ∨ (afterWait .bitHigh s c).phase = .check := by
  obtain ⟨-, h⟩ | ⟨-, h⟩ := s.storeBit_cases c <;> rw [afterWait, h]
  · exact .inl rfl
  · exact .inr rfl

theorem execPhaseCheck_phase {s t : State} (h : execPhaseCheck s = .next t) : t.phase = .respond := by
  obtain ⟨-, c, -, rfl⟩ | ⟨-, rfl⟩ := execPhaseCheck_next h <;> rfl

theorem execPhaseRespond_phase {s t : State} (h : execPhaseRespond s = .next t) : t.phase = s.phase ∨ t.phase = .idle := by
  obtain ⟨-, e⟩ | ⟨-, e⟩ := execPhaseRespond_cases s <;> cases e.symm.trans h
  · exact .inr rfl
  · exact .inl rfl

/-- Settles O51: the edges that leave a phase are those of its instruction. -/
theorem phaseMovesAlongGraph : Obligations.PhaseMovesAlongGraph := by
  unfold Obligations.PhaseMovesAlongGraph
  intro s t hr h
  obtain ⟨u, hu, rfl⟩ := step_exec hr h
  rw [State.nextTick_phase]
  cases hp : s.phase with rw [hp] at hu
  | idle => simpa [hp] using execPhaseIdle_phase hu
  | settle => simpa [hp] using execPhaseSettle_phase hu
  | startLow => simpa [hp] using execPhaseStartLow_phase hu
  | startHigh => simpa [hp] using execPhaseStartHigh_phase hu
  | check => simpa [hp] using .inr (execPhaseCheck_phase hu)
  | respond => simpa [hp] using execPhaseRespond_phase hu
  | ackLow => simpa [hp, afterWait, State.enterAckHigh] using exec_waiting_phase (p := .ackLow) rfl hu
  | bitLow => simpa [hp, afterWait, State.enterBitHigh] using exec_waiting_phase (p := .bitLow) rfl hu
  | ackHigh =>
    obtain stays | ends | fails := exec_waiting_phase (p := .ackHigh) rfl hu
    · exact .inl (stays.trans hp)
    · obtain bits | ⟨noBits, zero⟩ := afterWait_ackHigh_phase s.beginTick.sample s.cnt
      · simp [ends.trans bits]
      · simp [ends.trans noBits, show s.params.nBits = 0#6 from zero]
    · simp [fails]
  | bitHigh =>
    obtain stays | ends | fails := exec_waiting_phase (p := .bitHigh) rfl hu
    · exact .inl (stays.trans hp)
    · obtain next | last := afterWait_bitHigh_phase s.beginTick.sample s.cnt
      · simp [ends.trans next]
      · simp [ends.trans last]
    · simp [fails]

/-! ## The number of WAITs -/

/-- The WAITs a complete acquisition still makes from a state on, the present one included: both of the handshake and two for
each bit (spec/41_frame_decoder.md R112). -/
def State.waitsLeft (s : State) : Nat :=
  match s.phase with
  | .ackLow => s.params.nWaits
  | .ackHigh => s.params.nWaits - 1
  | .bitLow => (s.params.nBits.toNat - s.biti.toNat) * 2
  | .bitHigh => (s.params.nBits.toNat - s.biti.toNat) * 2 - 1
  | .idle | .settle | .startLow | .startHigh | .check | .respond => 0

/-- The loop's bit is one of the frame's (spec/41_frame_decoder.md R104). -/
def State.InLoop (s : State) : Prop := s.phase = .bitLow ∨ s.phase = .bitHigh → s.biti.toNat < s.params.nBits.toNat

theorem State.InLoop.one_le_waitsLeft {s : State} (hi : s.InLoop) (hw : s.phase.waiting = true) : 1 ≤ s.waitsLeft := by
  cases hp : s.phase with
  | ackLow | ackHigh => simp only [State.waitsLeft, hp, Params.nWaits]; omega
  | bitLow | bitHigh => have bit := hi (by simp [hp]); simp only [State.waitsLeft, hp]; omega
  | idle | settle | startLow | startHigh | check | respond => rw [hp] at hw; cases hw

/-- The state `t` is `n` WAITs further than `s` in the same acquisition. -/
structure State.WaitsLater (n : Nat) (s t : State) : Prop where
  params : t.params = s.params
  inLoop : t.InLoop
  waits : n + t.waitsLeft = s.waitsLeft

theorem State.WaitsLater.trans {m n : Nat} {s t u : State} (h₁ : s.WaitsLater m t) (h₂ : t.WaitsLater n u) :
    s.WaitsLater (m + n) u :=
  ⟨h₂.params.trans h₁.params, h₂.inLoop, by rw [Nat.add_assoc, h₂.waits, h₁.waits]⟩

theorem State.nextTick_waitsLater {n : Nat} {s t : State} (h : s.WaitsLater n t) : s.WaitsLater n t.nextTick := by
  obtain ⟨i, l, d, e⟩ := t.nextTick_eq
  rw [e]
  exact { h with }

/-- At the head of the bit loop two WAITs are left for each bit from BITI on. -/
theorem State.bitLoop_waitsLater {s t : State} (hp : t.params = s.params)
    (h : (t.params.nBits.toNat - t.biti.toNat) * 2 + 1 = s.waitsLeft) : s.WaitsLater 1 t.bitLoop := by
  by_cases more : t.biti < t.params.nBits
  · rw [State.bitLoop_of_lt more]
    exact ⟨hp, fun _ => more, (Nat.add_comm _ _).trans h⟩
  · rw [State.bitLoop_of_not_lt more]
    rw [BitVec.lt_def] at more
    exact ⟨hp, nofun, .trans (by simp [State.waitsLeft]; omega) h⟩

/-- The end of a WAIT leaves one WAIT less to come. -/
theorem afterWait_waitsLater {s : State} (hfit : s.params.fits = true) (hi : s.InLoop) (hw : s.phase.waiting = true) (c : Count) :
    s.WaitsLater 1 (afterWait s.phase s.sample c) := by
  cases hp : s.phase with
  | ackLow => exact ⟨rfl, nofun, by simp [State.waitsLeft, hp, afterWait, State.enterAckHigh, Params.nWaits]; omega⟩
  | ackHigh => exact State.bitLoop_waitsLater rfl (by simp [State.waitsLeft, hp, Params.nWaits]; omega)
  | bitLow =>
    have bit := hi (.inl hp)
    exact ⟨rfl, fun _ => bit, by simp [State.waitsLeft, hp, afterWait, State.enterBitHigh]; omega⟩
  | bitHigh =>
    have bit := hi (.inr hp)
    have next : (s.biti + 1#6).toNat = s.biti.toNat + 1 := by have room := (fits_iff.mp hfit).1; simp; omega
    exact State.bitLoop_waitsLater rfl (by simp only [State.waitsLeft, hp, State.sample_params, State.sample_biti, next]; omega)
  | idle | settle | startLow | startHigh | check | respond => rw [hp] at hw; cases hw

theorem waitsEnded_succ_of_step {s u : State} (h : step s = .next u) (k : Nat) :
    waitsEnded (k + 1) s = (if s.phase.waiting = true ∧ u.phase ≠ s.phase then 1 else 0) + waitsEnded k u := by
  simp [waitsEnded, h]

theorem waitsEnded_one_of_step {s t : State} (hw : s.phase.waiting = true) (h : step s = .next t) :
    waitsEnded 1 s = if t.phase = s.phase then 0 else 1 := by
  simp [waitsEnded, h, hw]

theorem waitsEnded_add_of_runFor {j : Nat} {s t : State} (h : runFor j s = some t) (k : Nat) :
    waitsEnded (j + k) s = waitsEnded j s + waitsEnded k t := by
  induction j generalizing s with
  | zero => cases h; simp [waitsEnded]
  | succ j ih =>
    rw [Nat.add_right_comm]
    cases hs : step s with
    | next u =>
      rw [runFor_succ_of_step hs] at h
      rw [waitsEnded_succ_of_step hs, waitsEnded_succ_of_step hs, ih h, Nat.add_assoc]
    | fault r => simp [runFor, hs] at h
    | refused r => simp [runFor, hs] at h

theorem step_of_runFor_succ {k : Nat} {s t u : State} (hu : runFor k s = some u) (h : runFor (k + 1) s = some t) :
    step u = .next t := by
  rw [runFor_add_of_runFor hu] at h
  cases hs : step u with
  | next v => rw [runFor_succ_of_step hs] at h; cases h; rfl
  | fault r => simp [runFor, hs] at h
  | refused r => simp [runFor, hs] at h

/-- One tick of a WAIT: the acquisition ends in a block reset or a Timeout, or it goes on. -/
theorem step_waitsLater {s t : State} (hfit : s.params.fits = true) (hi : s.InLoop) (hw : s.phase.waiting = true)
    (h : step s = .next t) :
    t.phase = .idle ∨ (t.phase = .respond ∧ t.rspArgs.status = .fail) ∨
      (t.phase ≠ .respond ∧ s.WaitsLater (waitsEnded 1 s) t) := by
  rw [waitsEnded_one_of_step hw h]
  obtain ⟨-, rfl⟩ | ⟨-, u, hu, rfl⟩ := step_cases h
  · exact .inl (State.nextTick_phase _)
  · cases (exec_waiting hw s.beginTick).symm.trans hu
    rw [State.nextTick_phase, State.nextTick_rspArgs]
    obtain ⟨-, -, e⟩ | ⟨-, e⟩ | ⟨-, -, e⟩ := s.beginTick.waitTick_cases (afterWait s.phase)
    · have same : (s.beginTick.waitTick (afterWait s.phase)).phase = s.phase := by rw [e]; rfl
      rw [if_pos same, same, e]
      exact .inr (.inr ⟨fun respond => by simp [respond, Phase.waiting] at hw,
        State.nextTick_waitsLater ⟨rfl, hi, Nat.zero_add _⟩⟩)
    · obtain ⟨leaves, goesOn⟩ := afterWait_phase hw s.beginTick.sample s.beginTick.cnt
      rw [e, if_neg leaves]
      exact .inr (.inr ⟨goesOn, State.nextTick_waitsLater { afterWait_waitsLater (s := s.beginTick) hfit hi hw _ with }⟩)
    · rw [e]
      exact .inr (.inl ⟨rfl, rfl⟩)

/-- While a run stays in phases of WAIT, the WAITs that have ended and those that are left make up those of the acquisition. -/
theorem runFor_waitsLater {k : Nat} {s t : State} (hfit : s.params.fits = true) (hi : s.InLoop) (h : runFor k s = some t)
    (stays : ∀ j ≤ k, ∃ u, runFor j s = some u ∧ u.phase.waiting = true) : s.WaitsLater (waitsEnded k s) t := by
  induction k generalizing t with
  | zero => cases h; exact ⟨rfl, hi, Nat.zero_add _⟩
  | succ k ih =>
    obtain ⟨u, hu, hw⟩ := stays k (by omega)
    have later := ih hu fun j hj => stays j (by omega)
    have goesOn : t.phase.waiting = true := by
      obtain ⟨t', ht', hwt⟩ := stays (k + 1) le_rfl
      cases h.symm.trans ht'
      exact hwt
    obtain idle | ⟨respond, -⟩ | ⟨-, one⟩ := step_waitsLater (later.params ▸ hfit) later.inLoop hw (step_of_runFor_succ hu h)
    · simp [idle, Phase.waiting] at goesOn
    · simp [respond, Phase.waiting] at goesOn
    · rw [waitsEnded_add_of_runFor hu]
      exact later.trans one

/-- Settles O50: up to the last tick the WAITs ended and left make up N_WAITS; CHECK leaves none, and a Timeout ends one that
was left. -/
theorem completeAcquisitionMakesEightyTwoWaits : Obligations.CompleteAcquisitionMakesEightyTwoWaits := by
  unfold Obligations.CompleteAcquisitionMakesEightyTwoWaits
  refine ⟨rfl, fun s t k hfit hp h stays => ?_⟩
  have all : s.waitsLeft = s.params.nWaits := by simp [State.waitsLeft, hp]
  cases k with
  | zero => cases h; simp [hp]
  | succ k =>
    obtain ⟨u, hu, hw⟩ := stays k (Nat.lt_succ_self k)
    have later := runFor_waitsLater hfit (by simp [State.InLoop, hp]) hu fun j hj => stays j (Nat.lt_succ_of_le hj)
    have hstep := step_of_runFor_succ hu h
    have left := later.inLoop.one_le_waitsLeft hw
    have total := later.waits
    rw [waitsEnded_add_of_runFor hu]
    obtain idle | ⟨respond, fail⟩ | ⟨goesOn, one⟩ := step_waitsLater (later.params ▸ hfit) later.inLoop hw hstep
    · simp [idle]
    · have ends : waitsEnded 1 u = 1 := by
        rw [waitsEnded_one_of_step hw hstep, if_neg]
        intro same
        rw [← same, respond] at hw
        cases hw
      refine ⟨by simp [respond], fun _ => ⟨?_, ?_, fail⟩⟩ <;> omega
    · refine ⟨fun check => ?_, fun respond => absurd respond goesOn⟩
      have noneLeft : t.waitsLeft = 0 := by simp [State.waitsLeft, check]
      have made := (later.trans one).waits
      omega

end Sys2Proof.Machine

/-!
PROOFS of the family spec/42_handle_commands.md: CREATE, DESTROY and READ with their undefined cases (R120 to R129), acceptance
and response (R130, R131), where a step can stop, and the bound of a command's steps (R170).
-/

namespace Sys2Proof.Machine

/-! ## The outcomes of CREATE -/

theorem execCreate_withoutConfig (var : Variant) (pin : Nat) (s : State) :
    execCreate false var pin s = .next (s.abort .invalidArg) := rfl

theorem execCreate_type22 (pin : Nat) (s : State) : execCreate true .type22 pin s = .refused .createType22 := rfl

theorem execCreate_full {s : State} (h : firstFree s.slots = none) (pin : Nat) :
    execCreate true .type11 pin s = .next (s.abort .noMem) := by
  simp [execCreate, h]

theorem execCreate_free {s : State} {k : Nat} {c : Slot} (h : firstFree s.slots = some (k, c)) (pin : Nat) :
    execCreate true .type11 pin s =
      .next ((({ s with h := BitVec.ofNat 8 k } : State).putSlot k (c.created .type11 (BitVec.ofNat 8 pin))).respond
        ⟨.ok, some (BitVec.ofNat 8 k), none⟩) := by
  simp [execCreate, h]

/-- CREATE answers every request but one for Type22. -/
theorem execCreate_cases (cp : Bool) (var : Variant) (pin : Nat) (s : State) :
    (cp = true ∧ var = .type22 ∧ execCreate cp var pin s = .refused .createType22) ∨
      ∃ t, execCreate cp var pin s = .next t := by
  cases cp with
  | false => exact .inr ⟨_, execCreate_withoutConfig var pin s⟩
  | true =>
    cases var with
    | type22 => exact .inl ⟨rfl, rfl, execCreate_type22 pin s⟩
    | type11 =>
      cases h : firstFree s.slots with
      | none => exact .inr ⟨_, execCreate_full h pin⟩
      | some p => exact .inr ⟨_, execCreate_free h pin⟩

/-- Settles O16: the search for a free slot fails or finds the least one. -/
theorem createAllocatesLowestFreeSlot : Obligations.CreateAllocatesLowestFreeSlot := by
  unfold Obligations.CreateAllocatesLowestFreeSlot
  intro s pin
  refine ⟨fun var => execCreate_withoutConfig var pin s, execCreate_type22 pin s, fun full => ?_, fun k c hc free least => ?_⟩
  · exact execCreate_full (firstFree_eq_none.mpr full) pin
  · exact execCreate_free (firstFree_eq_some.mpr ⟨hc, free, least⟩) pin

/-- Settles O17: the variant is looked at after the config and before the slots. -/
theorem createTypeTwentyTwoIsRefused : Obligations.CreateTypeTwentyTwoIsRefused := by
  unfold Obligations.CreateTypeTwentyTwoIsRefused
  exact fun s pin => ⟨execCreate_type22 pin s, nofun⟩

/-! ## The outcomes of DESTROY and READ by the handle they name -/

theorem execDestroy_live {s : State} {n : Nat} {c : Slot} (hc : s.slots[(BitVec.ofNat 8 n).toNat]? = some c)
    (ha : c.alloc = true) :
    execDestroy true n s =
      .next ((({ s with h := BitVec.ofNat 8 n } : State).putSlot (BitVec.ofNat 8 n).toNat c.destroyed).respond
        ⟨.ok, none, none⟩) := by
  simp only [execDestroy, State.slot?, hc, ha, Bool.true_eq_false, reduceIte]

theorem execDestroy_dead {s : State} {n : Nat} (h : s.live (BitVec.ofNat 8 n) = false) :
    execDestroy true n s = .fault .destroyDeadHandle := by
  rw [State.live_false_iff] at h
  simp only [execDestroy, State.slot?, Bool.true_eq_false, reduceIte]
  split
  · rfl
  · simp [h _ ‹_›]

/-- DESTROY of a live slot is answered, every other use is a fault (spec/42_handle_commands.md R122, R123). -/
theorem execDestroy_cases (hp : Bool) (n : Nat) (s : State) :
    ((hp = false ∨ s.live (BitVec.ofNat 8 n) = false) ∧ ∃ f, execDestroy hp n s = .fault f) ∨
      (hp = true ∧ s.live (BitVec.ofNat 8 n) = true ∧ ∃ t, execDestroy hp n s = .next t) := by
  cases hp with
  | false => exact .inl ⟨.inl rfl, .destroyAbsentHandle, rfl⟩
  | true =>
    cases h : s.live (BitVec.ofNat 8 n) with
    | false => exact .inl ⟨.inr rfl, _, execDestroy_dead h⟩
    | true =>
      obtain ⟨c, hc, ha⟩ := State.live_iff.mp h
      exact .inr ⟨rfl, rfl, _, execDestroy_live hc ha⟩

theorem execRead_live {s : State} {n : Nat} {c : Slot} (hc : s.slots[(BitVec.ofNat 8 n).toNat]? = some c)
    (ha : c.alloc = true) :
    execRead true true n s = .next (({ s with h := BitVec.ofNat 8 n } : State).readFrom c) := by
  simp only [execRead, State.slot?, hc, ha, Bool.true_eq_false, or_self, reduceIte]

theorem execRead_dead {s : State} {n : Nat} (h : s.live (BitVec.ofNat 8 n) = false) :
    execRead true true n s = .fault .readDeadHandle := by
  rw [State.live_false_iff] at h
  simp only [execRead, State.slot?, Bool.true_eq_false, or_self, reduceIte]
  split
  · rfl
  · simp [h _ ‹_›]

/-- READ is a fault for a slot that is not live, and answered otherwise (spec/42_handle_commands.md R123, R124). -/
theorem execRead_cases (hp dp : Bool) (n : Nat) (s : State) :
    (hp = true ∧ dp = true ∧ s.live (BitVec.ofNat 8 n) = false ∧ execRead hp dp n s = .fault .readDeadHandle) ∨
      ((hp = false ∨ dp = false ∨ s.live (BitVec.ofNat 8 n) = true) ∧ ∃ t, execRead hp dp n s = .next t) := by
  by_cases absent : hp = false ∨ dp = false
  · exact .inr ⟨or_assoc.mp (.inl absent), _, if_pos absent⟩
  · obtain ⟨rfl, rfl⟩ : hp = true ∧ dp = true := by simpa using absent
    cases h : s.live (BitVec.ofNat 8 n) with
    | false => exact .inl ⟨rfl, rfl, rfl, execRead_dead h⟩
    | true =>
      obtain ⟨c, hc, ha⟩ := State.live_iff.mp h
      exact .inr ⟨.inr (.inr rfl), _, execRead_live hc ha⟩

/-- Settles O19: the cases of DESTROY and READ exclude each other, and CREATE is never a fault. -/
theorem undefinedHandleUsesAreExactlyTheFaults : Obligations.UndefinedHandleUsesAreExactlyTheFaults := by
  unfold Obligations.UndefinedHandleUsesAreExactlyTheFaults
  refine fun s h => ⟨fun hp => ?_, fun hp dp => ?_, fun cp var => ?_⟩ <;> simp only [exec]
  · obtain ⟨undefined, f, e⟩ | ⟨rfl, live, t, e⟩ := execDestroy_cases hp h s
    · exact iff_of_true ⟨f, e⟩ undefined
    · simp [e, live]
  · obtain ⟨rfl, rfl, dead, e⟩ | ⟨defined, t, e⟩ := execRead_cases hp dp h s
    · simp [e, dead]
    · rcases defined with rfl | rfl | live <;> simp [*]
  · obtain ⟨-, -, e⟩ | ⟨t, e⟩ := execCreate_cases cp var h s <;> simp [e]

/-- A write that keeps the bit ALLOC of its slot keeps every ALLOC. -/
theorem map_alloc_set {l : List Slot} {k : Nat} {c d : Slot} (hc : l[k]? = some c) (h : d.alloc = c.alloc) :
    (l.set k d).map Slot.alloc = l.map Slot.alloc := by
  obtain ⟨hk, rfl⟩ := List.getElem?_eq_some_iff.mp hc
  rw [List.map_set, h, ← List.getElem_map Slot.alloc (h := by simpa using hk), List.set_getElem_self]

/-- Settles O18: the cases of DESTROY; and CREATE took a free slot, to which DESTROY gives its ALLOC = 0 back. -/
theorem destroyFreesItsSlotOnly : Obligations.DestroyFreesItsSlotOnly := by
  unfold Obligations.DestroyFreesItsSlotOnly
  refine ⟨fun s h c hc ha => execDestroy_live hc ha, fun s hp h undefined => ?_, fun s t pin h hlen hcreate hrsp => ?_⟩
  · exact ((undefinedHandleUsesAreExactlyTheFaults s h).1 hp).mpr undefined
  · obtain ⟨hcp, -⟩ | ⟨-, -, -, rfl⟩ | ⟨-, -, k, c, hf, rfl⟩ := execCreate_next hcreate
    · cases hcp
    · simp at hrsp
    · obtain ⟨hc, free, -⟩ := firstFree_eq_some.mp hf
      obtain rfl : BitVec.ofNat 8 k = h := by simpa using hrsp
      have hk : k < s.slots.length := (List.getElem?_eq_some_iff.mp hc).1
      have named : (BitVec.ofNat 8 (BitVec.ofNat 8 k).toNat).toNat = k := by
        rw [BitVec.ofNat_toNat, BitVec.setWidth_eq, BitVec.toNat_ofNat]
        omega
      refine ⟨_, execDestroy_live (c := c.created .type11 (BitVec.ofNat 8 pin)) ?_ rfl, ?_⟩
      · rw [named]
        exact List.getElem?_set_self hk
      · simp only [State.respond_slots, State.putSlot_slots, named, List.set_set]
        exact map_alloc_set hc free.symm

/-! ## Acceptance and response -/

/-- The rule an accepted word goes to is its instruction's meaning: the decoder gives a word no PHASE row. -/
theorem execDecoded_eq_exec {w : Word} {i : Instr} (h : decodeCommand w = .ok i) (s : State) :
    execDecoded (.ok i) s = exec i s := by
  obtain ⟨-, h'⟩ | ⟨-, h'⟩ | ⟨-, h'⟩ | ⟨-, _, h'⟩ := decodeCommand_cases w <;> cases h.symm.trans h' <;> rfl

theorem execPhaseIdle_of_command {s : State} {i : Instr} (hv : s.inp.cmdValid = true)
    (hi : decodeCommand s.inp.cmdWord = .ok i) : execPhaseIdle s = exec i (s.accept s.inp.cmdWord) := by
  rw [execPhaseIdle, if_pos hv, hi, execDecoded_eq_exec hi]

/-- Settles O8: PHASE_IDLE on the accepted state, in the tick that runs it. -/
theorem stepRunsOfferedCommand : Obligations.StepRunsOfferedCommand := by
  unfold Obligations.StepRunsOfferedCommand
  intro s i hv hi
  refine ⟨Config.ovh s.drawn, s.drawn + 1, execPhaseIdle_of_command hv hi, fun hr hp => ?_⟩
  have runs : exec s.phase.instr s.beginTick = exec i (s.beginTick.accept s.inp.cmdWord) := by
    rw [hp]
    exact execPhaseIdle_of_command (s := s.beginTick) hv hi
  exact (step_eq_afterExec hr).trans (congrArg afterExec runs)

/-- Settles O15: RESPOND's tick delivers or spends OVH; a register whose value the response does not give takes a free one. -/
theorem respondDeliversAndReturnsToIdle : Obligations.RespondDeliversAndReturnsToIdle := by
  unfold Obligations.RespondDeliversAndReturnsToIdle
  refine ⟨⟨rfl, rfl, rfl, rfl, rfl⟩, fun s => ⟨fun ho => ?_, fun ho => if_neg ho⟩⟩
  refine ⟨s.rspArgs.handle.getD (s.freeAt 19 8), s.rspArgs.reading.getD (s.freeAt 20 32), if_pos ho, ?_, ?_⟩
  · intro h given
    rw [given, Option.getD_some]
  · intro r given
    rw [given, Option.getD_some]

/-! ## READ's two tests as numbers -/

theorem belowSettle_iff {p : Params} {t : Time} : belowSettle p t = true ↔ t.toNat < p.tSettle.toNat := by
  simp [belowSettle, BitVec.ult]

/-- T - LAST_TS on the clock's 64 bits is the elapsed time of spec/42_handle_commands.md R126. -/
theorem toNat_sub_eq_elapsedSince (t last : Time) : (t - last).toNat = elapsedSince t last := by
  rw [BitVec.toNat_sub, elapsedSince]
  congr 1
  have := last.isLt
  omega

theorem elapsedSince_of_le {t last : Time} (h : last.toNat ≤ t.toNat) : elapsedSince t last = t.toNat - last.toNat := by
  have := t.isLt
  rw [elapsedSince]
  omega

theorem Slot.throttled_iff {c : Slot} {p : Params} {t : Time} :
    c.throttled p t = true ↔ c.tsv = true ∧ elapsedSince t c.lastTs < p.tThrottle.toNat := by
  rw [← toNat_sub_eq_elapsedSince, Slot.throttled, Bool.and_eq_true, BitVec.ult, decide_eq_true_eq]

theorem Slot.throttled_false_iff {c : Slot} {p : Params} {t : Time} :
    c.throttled p t = false ↔ c.tsv = false ∨ p.tThrottle.toNat ≤ elapsedSince t c.lastTs := by
  rw [← Bool.not_eq_true, Slot.throttled_iff, not_and_or, Bool.not_eq_true, not_lt]

/-- The remaining settle time fits HOLDC (spec/42_handle_commands.md R125; log 19). -/
theorem settleHold_eq {p : Params} {t : Time} (fits : p.fits = true) (h : t.toNat < p.tSettle.toNat) :
    settleHold p t = BitVec.ofNat 20 (p.tSettle.toNat - t.toNat) ∧ (settleHold p t).toNat = p.tSettle.toNat - t.toNat := by
  have room := (fits_iff.mp fits).2
  have left : (settleHold p t).toNat = p.tSettle.toNat - t.toNat := by
    rw [settleHold, BitVec.toNat_setWidth, BitVec.toNat_sub_of_le (BitVec.le_def.mpr h.le)]
    omega
  exact ⟨BitVec.eq_of_toNat_eq (by rw [left, BitVec.toNat_ofNat]; omega), left⟩

/-! ## READ's steps -/

theorem execPhaseSettle_held {s : State} (hh : s.holdc ≠ 0#20) : execPhaseSettle s = .next s.holdTick := if_neg hh

theorem execPhaseSettle_over {s : State} {c : Slot} (hh : s.holdc = 0#20) (hc : s.slots[s.h.toNat]? = some c) :
    execPhaseSettle s = .next (s.readNow.readSlot c) := by
  simp [execPhaseSettle, State.slot?, hh, hc]

theorem execRead_settled {s : State} {n : Nat} {c : Slot} (hc : s.slots[(BitVec.ofNat 8 n).toNat]? = some c)
    (ha : c.alloc = true) (settled : s.params.tSettle.toNat ≤ s.inp.now.toNat) :
    execRead true true n s = .next (({ s with h := BitVec.ofNat 8 n } : State).readNow.readSlot c) :=
  (execRead_live hc ha).trans (congrArg _ (if_neg fun below => settled.not_gt (belowSettle_iff.mp below)))

theorem execRead_unsettled {s : State} {n : Nat} {c : Slot} (hc : s.slots[(BitVec.ofNat 8 n).toNat]? = some c)
    (ha : c.alloc = true) (below : s.inp.now.toNat < s.params.tSettle.toNat) :
    execRead true true n s =
      .next ((({ s with h := BitVec.ofNat 8 n } : State).readNow.holdEvent (settleHold s.params s.inp.now)).startHold .settle
        (settleHold s.params s.inp.now)) :=
  (execRead_live hc ha).trans (congrArg _ (if_pos (belowSettle_iff.mpr below)))

theorem State.readSlot_throttled {s : State} {c : Slot} (h : c.throttled s.params s.t = true) :
    s.readSlot c = s.respond (if c.rvalid then ⟨.ok, none, some c.lastReading⟩ else ⟨.fail, none, none⟩) := by
  rw [State.readSlot, if_pos h, apply_ite s.respond]
  rfl

theorem State.readSlot_attempts {s : State} {c : Slot} (h : c.throttled s.params s.t = false) :
    s.readSlot c = (s.putSlot s.h.toNat (c.attempted s.t)).enterStartLow :=
  if_neg (by simp [h])

theorem State.readSlot_t (s : State) (c : Slot) : (s.readSlot c).t = s.t := by
  obtain ⟨-, -, h⟩ | ⟨-, -, h⟩ | ⟨-, h⟩ := s.readSlot_cases c <;> rw [h] <;> rfl

/-- READ's steps b and c keep the time and the trace step a left, and lead to RESPOND or START_LOW. -/
theorem State.readNow_readSlot (s : State) (c : Slot) :
    (s.readNow.readSlot c).t = s.inp.now ∧ (s.readNow.readSlot c).trace = .now s.inp.now :: s.trace ∧
      ((s.readNow.readSlot c).phase = .respond ∨ (s.readNow.readSlot c).phase = .startLow) :=
  ⟨s.readNow.readSlot_t c, s.readNow.readSlot_trace c, s.readNow.readSlot_phase c⟩

/-- Settles O21: READ on both sides of T_SETTLE, and SETTLE's ticks. -/
theorem readHoldsUntilSettled : Obligations.ReadHoldsUntilSettled := by
  unfold Obligations.ReadHoldsUntilSettled
  refine ⟨fun s h live settled => ?_, fun s h live fits below => ?_, fun s hh => execPhaseSettle_held hh, fun s hh live => ?_⟩
  · obtain ⟨c, hc, ha⟩ := State.live_iff.mp live
    exact ⟨_, execRead_settled hc ha settled, State.readNow_readSlot { s with h := BitVec.ofNat 8 h } c⟩
  · obtain ⟨c, hc, ha⟩ := State.live_iff.mp live
    obtain ⟨hold, ticks⟩ := settleHold_eq fits below
    rw [← hold, ← ticks]
    exact execRead_unsettled hc ha below
  · obtain ⟨c, hc, -⟩ := State.live_iff.mp live
    exact ⟨_, execPhaseSettle_over hh hc, s.readNow_readSlot c⟩

/-- Step b at the time just read, for an instruction that comes to it: the answer from the cache inside the window, the attempt
outside it (R126, R127). -/
theorem State.readNow_readSlot_decides {s : State} {c : Slot} {r : Result} (h : r = .next (s.readNow.readSlot c)) :
    (c.tsv = true ∧ elapsedSince s.inp.now c.lastTs < s.params.tThrottle.toNat →
      r = .next (s.readNow.respond (if c.rvalid then ⟨.ok, none, some c.lastReading⟩ else ⟨.fail, none, none⟩))) ∧
    (c.tsv = false ∨ s.params.tThrottle.toNat ≤ elapsedSince s.inp.now c.lastTs →
      r = .next (s.readNow.putSlot s.h.toNat (c.attempted s.inp.now)).enterStartLow) :=
  ⟨fun inside => h.trans (congrArg _ (State.readSlot_throttled (Slot.throttled_iff.mpr inside))),
    fun outside => h.trans (congrArg _ (State.readSlot_attempts (Slot.throttled_false_iff.mpr outside)))⟩

/-- Settles O22: at or above T_SETTLE and after the hold, READ is its steps b and c at the time just read. -/
theorem readThrottleTestDecides : Obligations.ReadThrottleTestDecides := by
  unfold Obligations.ReadThrottleTestDecides
  refine ⟨default_tThrottle_toNat, fun s h c hc ha settled => ?_, fun s c hc hh => ?_⟩
  · exact State.readNow_readSlot_decides (execRead_settled hc ha settled)
  · exact State.readNow_readSlot_decides (execPhaseSettle_over hh hc)

/-- Settles O23: inside the window the throttle test of O22 holds, and its answer adds only the Now event. -/
theorem throttledReadTouchesNoPin : Obligations.ThrottledReadTouchesNoPin := by
  unfold Obligations.ThrottledReadTouchesNoPin
  intro s h c hc ha timed settled forward inside
  obtain ⟨-, read, -⟩ := readThrottleTestDecides
  have answer := (read s h c hc ha settled).1 ⟨timed, (elapsedSince_of_le forward).trans_lt inside⟩
  exact ⟨_, [.now s.inp.now], answer, rfl, by simp [Event.touchesPin], rfl, rfl, rfl, rfl, rfl⟩

/-! ## The start of an acquisition -/

/-- `t` has opened, at the time on the port of `s`, a new window of the slot H, which `s` had outside its window. -/
def State.OpensWindow (s t : State) : Prop :=
  t.t = s.inp.now ∧
    ∃ c d, s.slots[t.h.toNat]? = some c ∧ t.slots[t.h.toNat]? = some d ∧ d = { c with lastTs := s.inp.now, tsv := true } ∧
      (c.tsv = true → s.params.tThrottle.toNat ≤ elapsedSince s.inp.now c.lastTs)

theorem State.readSlot_opensWindow {s : State} {c : Slot} (hc : s.slots[s.h.toNat]? = some c)
    (h : (s.readNow.readSlot c).phase = .startLow) : s.OpensWindow (s.readNow.readSlot c) := by
  obtain ⟨-, -, e⟩ | ⟨-, -, e⟩ | ⟨outside, e⟩ := s.readNow.readSlot_cases c <;> rw [e] at h ⊢
  · cases h
  · cases h
  · have hk : s.h.toNat < s.slots.length := (List.getElem?_eq_some_iff.mp hc).1
    refine ⟨rfl, c, c.attempted s.inp.now, hc, List.getElem?_set_self hk, rfl, fun timed => ?_⟩
    exact (Slot.throttled_false_iff.mp outside).resolve_left (by simp [timed])

theorem execRead_opensWindow {hp dp : Bool} {n : Nat} {s t : State} (h : execRead hp dp n s = .next t)
    (starts : t.phase = .startLow) : s.params.tSettle.toNat ≤ s.inp.now.toNat ∧ s.OpensWindow t := by
  obtain ⟨-, rfl⟩ | ⟨-, -, c, hc, -, rfl⟩ := execRead_next h
  · cases starts
  · obtain ⟨-, e⟩ | ⟨settled, e⟩ := State.readFrom_cases { s with h := BitVec.ofNat 8 n } c <;> rw [e] at starts ⊢
    · cases starts
    · refine ⟨not_lt.mp fun below => ?_, State.readSlot_opensWindow (s := { s with h := BitVec.ofNat 8 n }) hc starts⟩
      simp [belowSettle_iff.mpr below] at settled

theorem execPhaseIdle_opensWindow {s t : State} (hp : s.phase = .idle) (h : execPhaseIdle s = .next t)
    (starts : t.phase = .startLow) : s.params.tSettle.toNat ≤ s.inp.now.toNat ∧ s.OpensWindow t := by
  obtain ⟨-, e⟩ | ⟨-, ⟨_, _, _, -, e⟩ | ⟨_, _, _, -, e⟩ | ⟨_, _, -, e⟩ | ⟨-, e⟩⟩ := execPhaseIdle_cases s <;> rw [e] at h
  · cases h; simp [hp] at starts
  · obtain ⟨-, rfl⟩ | ⟨-, -, -, rfl⟩ | ⟨-, -, _, _, -, rfl⟩ := execCreate_next h <;> cases starts
  · exact execRead_opensWindow (s := s.accept s.inp.cmdWord) h starts
  · obtain ⟨-, _, -, -, rfl⟩ := execDestroy_next h
    cases starts
  · cases h; cases starts

theorem execPhaseSettle_opensWindow {s t : State} (hp : s.phase = .settle) (h : execPhaseSettle s = .next t)
    (starts : t.phase = .startLow) : s.OpensWindow t := by
  obtain ⟨-, rfl⟩ | ⟨-, c, hc, rfl⟩ := execPhaseSettle_next h
  · simp [hp] at starts
  · exact State.readSlot_opensWindow hc starts

/-- Settles O48: the phase graph (O51) leads into START_LOW from IDLE, by a READ, and from SETTLE only. -/
theorem acquisitionStartsOnlyOutsideWindow : Obligations.AcquisitionStartsOnlyOutsideWindow := by
  unfold Obligations.AcquisitionStartsOnlyOutsideWindow
  intro s t hr elsewhere h starts
  have source : s.phase = .idle ∨ s.phase = .settle := by
    have edge := phaseMovesAlongGraph s t hr h
    simp only [starts, reduceCtorEq, and_false, false_and, or_false, false_or, and_true, Ne.symm elsewhere] at edge
    exact edge
  obtain ⟨u, hu, rfl⟩ := step_exec hr h
  simp only [State.nextTick_phase, State.nextTick_t, State.nextTick_h, State.nextTick_slots] at starts ⊢
  obtain hp | hp := source <;> rw [hp] at hu
  · obtain ⟨settled, time, window⟩ := execPhaseIdle_opensWindow (s := s.beginTick) hp hu starts
    exact ⟨time, fun _ => settled, window⟩
  · obtain ⟨time, window⟩ := execPhaseSettle_opensWindow (s := s.beginTick) hp hu starts
    exact ⟨time, fun idle => by simp [hp] at idle, window⟩

/-! ## What a FAIL leaves -/

/-- If `t` is about to respond FAIL, it has the slots of `s` and gives nothing but the status. -/
def State.FailsOnly (s t : State) : Prop :=
  t.phase = .respond → t.rspArgs.status = .fail → t.slots = s.slots ∧ t.rspArgs = ⟨.fail, none, none⟩

theorem State.failsOnly_of_phase_ne {s t : State} (h : t.phase ≠ .respond) : s.FailsOnly t := fun hp => absurd hp h

theorem State.failsOnly_of_status_ne {s t : State} (h : t.rspArgs.status ≠ .fail) : s.FailsOnly t :=
  fun _ hs => absurd hs h

theorem State.readSlot_failsOnly (s : State) (c : Slot) : s.FailsOnly (s.readSlot c) := by
  obtain ⟨-, -, h⟩ | ⟨-, -, h⟩ | ⟨-, h⟩ := s.readSlot_cases c <;> rw [h]
  · exact State.failsOnly_of_status_ne nofun
  · exact fun _ _ => ⟨rfl, rfl⟩
  · exact State.failsOnly_of_phase_ne nofun

theorem execRead_failsOnly {hp dp : Bool} {n : Nat} {s t : State} (h : execRead hp dp n s = .next t) : s.FailsOnly t := by
  obtain ⟨-, rfl⟩ | ⟨-, -, c, -, -, rfl⟩ := execRead_next h
  · exact State.failsOnly_of_status_ne nofun
  · obtain ⟨-, e⟩ | ⟨-, e⟩ := State.readFrom_cases { s with h := BitVec.ofNat 8 n } c <;> rw [e]
    · exact State.failsOnly_of_phase_ne nofun
    · exact State.readSlot_failsOnly _ c

theorem execPhaseIdle_failsOnly {s t : State} (hp : s.phase = .idle) (h : execPhaseIdle s = .next t) : s.FailsOnly t := by
  obtain ⟨-, e⟩ | ⟨-, ⟨_, _, _, -, e⟩ | ⟨_, _, _, -, e⟩ | ⟨_, _, -, e⟩ | ⟨-, e⟩⟩ := execPhaseIdle_cases s <;> rw [e] at h
  · cases h; exact State.failsOnly_of_phase_ne (by simp [hp])
  · obtain ⟨-, rfl⟩ | ⟨-, -, -, rfl⟩ | ⟨-, -, _, _, -, rfl⟩ := execCreate_next h <;>
      exact State.failsOnly_of_status_ne nofun
  · exact execRead_failsOnly (s := s.accept s.inp.cmdWord) h
  · obtain ⟨-, _, -, -, rfl⟩ := execDestroy_next h
    exact State.failsOnly_of_status_ne nofun
  · cases h; exact State.failsOnly_of_status_ne nofun

/-- Of the instructions of a command only READ's, a WAIT's and CHECK's can fail, and each leaves the slots then. -/
theorem exec_failsOnly {s t : State} (hp : s.phase ≠ .respond) (h : exec s.phase.instr s = .next t) : s.FailsOnly t := by
  by_cases hw : s.phase.waiting = true
  · cases (exec_waiting hw s).symm.trans h
    obtain ⟨-, -, e⟩ | ⟨-, e⟩ | ⟨-, -, e⟩ := s.waitTick_cases (afterWait s.phase) <;> rw [e]
    · exact State.failsOnly_of_phase_ne hp
    · exact State.failsOnly_of_phase_ne (afterWait_phase hw s.sample s.cnt).2
    · exact fun _ _ => ⟨rfl, rfl⟩
  cases phase : s.phase with rw [phase] at h
  | idle => exact execPhaseIdle_failsOnly phase h
  | settle =>
    obtain ⟨-, rfl⟩ | ⟨-, c, -, rfl⟩ := execPhaseSettle_next h
    · exact State.failsOnly_of_phase_ne hp
    · exact s.readNow.readSlot_failsOnly c
  | startLow =>
    refine State.failsOnly_of_phase_ne ?_
    obtain e | e | ⟨e, -⟩ := execPhaseStartLow_phase h <;> simp [e, phase]
  | startHigh =>
    refine State.failsOnly_of_phase_ne ?_
    obtain e | e := execPhaseStartHigh_phase h <;> simp [e, phase]
  | check =>
    obtain ⟨-, c, -, rfl⟩ | ⟨-, rfl⟩ := execPhaseCheck_next h
    · exact State.failsOnly_of_status_ne nofun
    · exact fun _ _ => ⟨rfl, rfl⟩
  | respond => exact absurd phase hp
  | ackLow | ackHigh | bitLow | bitHigh => rw [phase] at hw; exact absurd rfl hw

/-- Settles O49: the instruction of the tick, whatever its phase, leaves the slots when it fails. -/
theorem failureLeavesCache : Obligations.FailureLeavesCache := by
  unfold Obligations.FailureLeavesCache
  intro s t hr busy h responds fails
  obtain ⟨u, hu, rfl⟩ := step_exec hr h
  simp only [State.nextTick_phase, State.nextTick_slots, State.nextTick_rspArgs] at responds fails ⊢
  exact exec_failsOnly (s := s.beginTick) busy hu responds fails

/-! ## Where a step can stop -/

/-- Inside a command the invariant rules out every stop: H names a slot, and START's is not Type22. -/
theorem exec_answers {s : State} (inv : s.Inv) (busy : s.phase ≠ .idle) : ∃ t, exec s.phase.instr s = .next t := by
  cases hp : s.phase with
  | idle => exact absurd hp busy
  | settle =>
    obtain ⟨c, hc, -⟩ := inv.working (by rw [hp]; rfl)
    by_cases hh : s.holdc = 0#20
    · exact ⟨_, execPhaseSettle_over hh hc⟩
    · exact ⟨_, execPhaseSettle_held hh⟩
  | startLow =>
    obtain ⟨c, hc, ha, -⟩ := inv.acquires (by rw [hp]; rfl)
    by_cases hh : s.holdc = s.params.tStartLow
    · exact ⟨_, execPhaseStartLow_first hc hh ((inv.sane.sound hc).type11 ha)⟩
    · exact ⟨_, execPhaseStartLow_later hc hh⟩
  | startHigh => obtain ⟨-, e⟩ | ⟨-, e⟩ := execPhaseStartHigh_cases s <;> exact ⟨_, e⟩
  | ackLow | ackHigh | bitLow | bitHigh => exact ⟨_, rfl⟩
  | check =>
    obtain ⟨c, hc, -⟩ := inv.acquires (by rw [hp]; rfl)
    obtain ⟨t, -, e, -⟩ := checksumDecidesAcquisition s c hc
    exact ⟨t, e⟩
  | respond => obtain ⟨-, e⟩ | ⟨-, e⟩ := execPhaseRespond_cases s <;> exact ⟨_, e⟩

/-- Settles O40: inside a command every step is answered, and of the commands only those of R121 and R123 are not. -/
theorem onlyCommandsCanStop : Obligations.OnlyCommandsCanStop := by
  unfold Obligations.OnlyCommandsCanStop
  intro s inv stops
  have noReset : s.inp.rst = false := by
    by_contra hr
    exact stops _ (if_pos (by simpa using hr))
  have unanswered (t : State) : exec s.phase.instr s.beginTick ≠ .next t := fun e => stops _ (step_of_exec noReset e)
  have idle : s.phase = .idle := by
    by_contra busy
    obtain ⟨t, e⟩ := exec_answers inv.beginTick busy
    exact unanswered t e
  rw [idle] at unanswered
  obtain ⟨-, e⟩ | ⟨valid, command⟩ := execPhaseIdle_cases s.beginTick
  · exact absurd e (unanswered _)
  refine ⟨idle, valid, ?_⟩
  obtain ⟨cp, var, pin, hd, e⟩ | ⟨hp, dp, n, hd, e⟩ | ⟨hp, n, hd, e⟩ | ⟨-, e⟩ := command
  · obtain ⟨rfl, rfl, -⟩ | ⟨t, e'⟩ := execCreate_cases cp var pin (s.beginTick.accept s.inp.cmdWord)
    · exact .inl ⟨pin, hd⟩
    · exact absurd (e.trans e') (unanswered t)
  · obtain ⟨rfl, rfl, dead, -⟩ | ⟨-, t, e'⟩ := execRead_cases hp dp n (s.beginTick.accept s.inp.cmdWord)
    · exact .inr (.inl ⟨n, hd, dead⟩)
    · exact absurd (e.trans e') (unanswered t)
  · obtain ⟨undefined, -⟩ | ⟨-, -, t, e'⟩ := execDestroy_cases hp n (s.beginTick.accept s.inp.cmdWord)
    · exact .inr (.inr ⟨hp, n, hd, undefined⟩)
    · exact absurd (e.trans e') (unanswered t)
  · exact absurd e (unanswered _)

/-! ## The steps a command still takes -/

/-- The most steps an acquisition still takes once the WAIT of its phase has ended; of no account elsewhere (R170). -/
def State.ticksAfterWait (s : State) : Nat :=
  match s.phase with
  | .ackLow => (s.params.tAck.toNat + 1) + s.params.frameTicks
  | .ackHigh => s.params.frameTicks
  | .bitLow => (s.params.tBitHigh.toNat + 1) + s.laterBitTicks
  | .bitHigh => s.laterBitTicks
  | .idle | .settle | .startLow | .startHigh | .check | .respond => 0

/-- A WAIT's phase still takes the WAIT's samples, what follows the WAIT, and CHECK and RESPOND with the ticks of OVH. -/
theorem State.stepsLeft_of_waiting {s : State} (hw : s.phase.waiting = true) :
    s.stepsLeft = s.samplesLeft (s.phase.budget s.params) + s.ticksAfterWait + (s.ovhLeft + 2) := by
  cases hp : s.phase with
  | ackLow | ackHigh | bitLow | bitHigh => simp [State.stepsLeft, State.ticksAfterWait, Phase.budget, hp, Nat.add_assoc]
  | idle | settle | startLow | startHigh | check | respond => rw [hp] at hw; cases hw

@[simp] theorem State.stepsLeft_beginTick (s : State) : s.beginTick.stepsLeft = s.stepsLeft := rfl

@[simp] theorem State.stepsLeft_nextTick (s : State) : s.nextTick.stepsLeft = s.stepsLeft := by
  obtain ⟨i, l, n, e⟩ := s.nextTick_eq
  rw [e]
  rfl

theorem State.stepsLeft_respond (s : State) (r : Response) : (s.respond r).stepsLeft = s.ovhLeft + 1 := rfl

/-- `t` leaves the coming inputs to the ticks to come, and the command then takes fewer steps than from `s`. -/
def State.Shortens (s t : State) : Prop := t.inputs = s.inputs ∧ t.stepsLeft < s.stepsLeft

/-- At the head of the loop the bits from BITI on are still to come (spec/41_frame_decoder.md R100). -/
theorem State.bitLoop_stepsLeft (s : State) :
    s.bitLoop.stepsLeft = (s.params.nBits.toNat - s.biti.toNat) * s.params.bitTicks + (s.ovhLeft + 2) := by
  by_cases more : s.biti < s.params.nBits
  · rw [State.bitLoop_of_lt more]
    have bits : s.params.nBits.toNat - s.biti.toNat = s.params.nBits.toNat - 1 - s.biti.toNat + 1 := by
      rw [BitVec.lt_def] at more
      omega
    have entered : s.enterBitLow.stepsLeft =
        (s.params.tBitLow.toNat + 1) + (s.params.tBitHigh.toNat + 1) + s.laterBitTicks + (s.ovhLeft + 2) := rfl
    rw [entered, bits, Nat.succ_mul, ← State.laterBitTicks]
    simp only [Params.bitTicks]
    omega
  · rw [State.bitLoop_of_not_lt more]
    rw [BitVec.lt_def] at more
    have bits : s.params.nBits.toNat - s.biti.toNat = 0 := by omega
    simp [State.stepsLeft, bits]

/-- The end of a WAIT leads to what R170's table has after it. -/
theorem afterWait_stepsLeft {s : State} (inv : s.Inv) (hw : s.phase.waiting = true) (c : Count) :
    (afterWait s.phase s.sample c).stepsLeft = s.ticksAfterWait + (s.ovhLeft + 2) := by
  cases hp : s.phase with
  | ackLow =>
    simp [afterWait, State.enterAckHigh, State.stepsLeft, State.samplesLeft, State.ticksAfterWait, hp]
  | ackHigh =>
    have bits := State.bitLoop_stepsLeft { s.sample with biti := 0#6 }
    simpa [afterWait, State.ticksAfterWait, hp, Params.frameTicks] using bits
  | bitLow =>
    simp [afterWait, State.enterBitHigh, State.stepsLeft, State.samplesLeft, State.ticksAfterWait, State.laterBitTicks, hp]
  | bitHigh =>
    have bit := inv.bits (.inr hp)
    have room := (fits_iff.mp inv.params).1
    have next : s.params.nBits.toNat - (s.biti + 1#6).toNat = s.params.nBits.toNat - 1 - s.biti.toNat := by bv_omega
    have bits := State.bitLoop_stepsLeft
      { s.sample with frame := s.frame.storeBit s.biti (bitOfCount s.params c), biti := s.biti + 1#6 }
    simp only [State.ticksAfterWait, State.laterBitTicks, hp, ← next]
    exact bits
  | idle | settle | startLow | startHigh | check | respond => rw [hp] at hw; cases hw

theorem afterWait_inputs (p : Phase) (s : State) (c : Count) : (afterWait p s c).inputs = s.inputs := by
  cases p with
  | ackHigh | bitHigh => exact State.bitLoop_inputs _
  | ackLow | bitLow | idle | settle | startLow | startHigh | check | respond => rfl

/-- A sample brings the WAIT's end nearer, or ends the WAIT. -/
theorem State.waitTick_shortens {s : State} (inv : s.Inv) (hw : s.phase.waiting = true) :
    s.Shortens (s.waitTick (afterWait s.phase)) := by
  have left := State.stepsLeft_of_waiting hw
  obtain ⟨-, bud, within⟩ := inv.waits hw
  rw [BitVec.le_def] at within
  simp only [State.samplesLeft] at left
  obtain ⟨-, below, e⟩ | ⟨-, e⟩ | ⟨-, -, e⟩ := s.waitTick_cases (afterWait s.phase) <;> rw [e]
  · have below : s.cnt.toNat < (s.phase.budget s.params).toNat :=
      within.lt_of_ne fun h => below (bud ▸ BitVec.eq_of_toNat_eq h)
    have counted : (s.cnt + 1#7).toNat = s.cnt.toNat + 1 := by
      have room := (s.phase.budget s.params).isLt
      rw [BitVec.toNat_add, BitVec.toNat_ofNat]
      omega
    have left' : ({ s.sample with cnt := s.cnt + 1#7 } : State).stepsLeft =
        (s.phase.budget s.params).toNat - (s.cnt + 1#7).toNat + 1 + s.ticksAfterWait + (s.ovhLeft + 2) :=
      State.stepsLeft_of_waiting (s := { s.sample with cnt := s.cnt + 1#7 }) hw
    exact ⟨rfl, left'.trans_lt (by omega)⟩
  · exact ⟨afterWait_inputs _ _ _, by rw [afterWait_stepsLeft inv hw]; omega⟩
  · have fails : s.sample.acquireFail.stepsLeft = s.ovhLeft + 1 := s.sample.discardFrame.stepsLeft_respond _
    exact ⟨rfl, by omega⟩

/-! The holds of the start signal -/

/-- Every tick of a hold is one step less. -/
theorem State.holdTick_shortens {s : State} (hp : s.phase = .settle ∨ s.phase = .startLow ∨ s.phase = .startHigh)
    (hh : s.holdc ≠ 0#20) : s.Shortens s.holdTick := by
  have held : s.holdc.toNat ≠ 0 := fun h0 => hh (BitVec.eq_of_toNat_eq h0)
  refine ⟨rfl, ?_⟩
  rcases hp with hp | hp | hp <;>
    simp only [State.stepsLeft, hp, State.holdTick_phase, State.holdTick_holdc, State.holdTick_params, State.holdTick_ovhLeft,
      holdc_sub_one_toNat hh] <;>
    omega

theorem State.startHighTick_shortens {s : State} (hp : s.phase = .startHigh) : s.Shortens s.startHighTick := by
  obtain ⟨-, h⟩ | ⟨hh, h⟩ := s.startHighTick_cases <;> rw [h]
  · have waits : (s.pinDir false).enterAckLow.stepsLeft =
        (s.params.tAck.toNat + 1) + (s.params.tAck.toNat + 1) + s.params.frameTicks + (s.ovhLeft + 2) := rfl
    refine ⟨rfl, waits.trans_lt ?_⟩
    simp only [State.stepsLeft, Params.ackTicks, hp]
    omega
  · exact State.holdTick_shortens (.inr (.inr hp)) hh

theorem State.startLowTick_shortens {s : State} (hp : s.phase = .startLow) (hh : s.holdc ≠ 0#20) :
    s.Shortens s.startLowTick := by
  obtain ⟨-, h⟩ | ⟨-, h⟩ := s.startLowTick_cases <;> rw [h]
  · have held : s.holdc.toNat ≠ 0 := fun h0 => hh (BitVec.eq_of_toNat_eq h0)
    have high : s.enterStartHigh.stepsLeft =
        s.params.tStartHigh.toNat + 1 + s.params.ackTicks + s.params.frameTicks + (s.ovhLeft + 2) := rfl
    refine ⟨rfl, high.trans_lt ?_⟩
    simp only [State.stepsLeft, hp]
    omega
  · exact State.holdTick_shortens (.inr (.inl hp)) hh

/-- START_LOW's first tick: should its hold be nothing, it spends a tick of START_HIGH instead (spec/20_memory.md R45). -/
theorem State.startLowFirst_shortens {s : State} (hp : s.phase = .startLow) (hh : s.holdc = s.params.tStartLow) (c : Slot) :
    s.Shortens (s.startLowFirst c) := by
  obtain ⟨-, h⟩ | ⟨positive, h⟩ := s.startLowFirst_cases c <;> rw [h]
  · obtain ⟨inputs, fewer⟩ := State.startHighTick_shortens (s := (s.driveLow c).enterStartHigh.driveHigh) rfl
    have high : (s.driveLow c).enterStartHigh.driveHigh.stepsLeft =
        s.params.tStartHigh.toNat + 1 + s.params.ackTicks + s.params.frameTicks + (s.ovhLeft + 2) := rfl
    refine ⟨inputs, fewer.trans_le (high.trans_le ?_)⟩
    simp only [State.stepsLeft, hp]
    omega
  · exact State.startLowTick_shortens (s := s.driveLow c) hp (fun h0 => positive (hh ▸ h0))

theorem execPhaseStartLow_shortens {s t : State} (inv : s.Inv) (hp : s.phase = .startLow)
    (h : execPhaseStartLow s = .next t) : s.Shortens t := by
  obtain ⟨c, -, ⟨hh, -, rfl⟩ | ⟨hh, rfl⟩⟩ := execPhaseStartLow_next h
  · exact State.startLowFirst_shortens hp hh c
  · exact State.startLowTick_shortens hp (inv.lowHeld hp hh)

theorem execPhaseStartHigh_shortens {s t : State} (hp : s.phase = .startHigh) (h : execPhaseStartHigh s = .next t) :
    s.Shortens t := by
  obtain ⟨-, e⟩ | ⟨-, e⟩ := execPhaseStartHigh_cases s <;> cases e.symm.trans h
  · exact State.startHighTick_shortens (s := s.driveHigh) hp
  · exact State.startHighTick_shortens hp

/-! The other phases -/

theorem execPhaseSettle_shortens {s t : State} (hp : s.phase = .settle) (h : execPhaseSettle s = .next t) : s.Shortens t := by
  obtain ⟨hh, rfl⟩ | ⟨-, c, -, rfl⟩ := execPhaseSettle_next h
  · exact State.holdTick_shortens (.inl hp) hh
  have responds (r : Response) : s.Shortens (s.readNow.respond r) := by
    refine ⟨rfl, (s.readNow.stepsLeft_respond r).trans_lt ?_⟩
    simp only [State.stepsLeft, State.readNow_ovhLeft, hp]
    omega
  obtain ⟨-, -, e⟩ | ⟨-, -, e⟩ | ⟨-, e⟩ := s.readNow.readSlot_cases c <;> rw [e]
  · exact responds _
  · exact responds _
  · have starts : ((s.readNow.putSlot s.h.toNat (c.attempted s.inp.now)).enterStartLow).stepsLeft =
        s.params.tStartLow.toNat + (s.params.tStartHigh.toNat + 1) + s.params.ackTicks + s.params.frameTicks +
          (s.ovhLeft + 2) := rfl
    refine ⟨rfl, starts.trans_lt ?_⟩
    simp only [State.stepsLeft, hp]
    omega

theorem execPhaseCheck_shortens {s t : State} (hp : s.phase = .check) (h : execPhaseCheck s = .next t) : s.Shortens t := by
  have rest : s.stepsLeft = s.ovhLeft + 2 := by simp [State.stepsLeft, hp]
  obtain ⟨-, c, -, rfl⟩ | ⟨-, rfl⟩ := execPhaseCheck_next h <;>
    exact ⟨rfl, (State.stepsLeft_respond _ _).trans_lt (rest ▸ Nat.lt_succ_self _)⟩

theorem execPhaseRespond_shortens {s t : State} (hp : s.phase = .respond) (h : execPhaseRespond s = .next t) :
    s.Shortens t := by
  have rest : s.stepsLeft = s.ovhLeft + 1 := by simp [State.stepsLeft, hp]
  obtain ⟨-, e⟩ | ⟨ho, e⟩ := execPhaseRespond_cases s <;> cases e.symm.trans h
  · exact ⟨rfl, rest ▸ Nat.succ_pos _⟩
  · refine ⟨rfl, ?_⟩
    rw [rest]
    simp only [State.stepsLeft, State.ovhTick_phase, State.ovhTick_ovhLeft, hp]
    omega

/-- Inside a command every instruction brings IDLE nearer. -/
theorem exec_shortens {s t : State} (inv : s.Inv) (busy : s.phase ≠ .idle) (h : exec s.phase.instr s = .next t) :
    s.Shortens t := by
  by_cases hw : s.phase.waiting = true
  · cases (exec_waiting hw s).symm.trans h
    exact State.waitTick_shortens inv hw
  cases hp : s.phase with rw [hp] at h
  | idle => exact absurd hp busy
  | settle => exact execPhaseSettle_shortens hp h
  | startLow => exact execPhaseStartLow_shortens inv hp h
  | startHigh => exact execPhaseStartHigh_shortens hp h
  | check => exact execPhaseCheck_shortens hp h
  | respond => exact execPhaseRespond_shortens hp h
  | ackLow | ackHigh | bitLow | bitHigh => rw [hp] at hw; exact absurd rfl hw

/-- A step inside a command is answered, keeps the invariant and brings IDLE nearer. -/
theorem step_towards_idle {s : State} {v : Level} {l : List Level} (inv : s.Inv) (busy : s.phase ≠ .idle)
    (h : s.offers (v :: l)) : ∃ t, step s = .next t ∧ t.Inv ∧ t.stepsLeft < s.stepsLeft ∧ t.offers l := by
  obtain ⟨-, noReset, later⟩ := State.offers_cons h
  obtain ⟨u, hu⟩ := exec_answers inv.beginTick busy
  obtain ⟨inputs, fewer⟩ := exec_shortens inv.beginTick busy hu
  have hstep := step_of_exec noReset hu
  exact ⟨_, hstep, stepKeepsInvariant s _ inv hstep, by simpa using fewer, later u inputs⟩

theorem State.idle_of_stepsLeft {s : State} (h : s.stepsLeft = 0) : s.phase = .idle := by
  cases hp : s.phase <;> simp [State.stepsLeft, hp] at h ⊢

/-- Without a reset IDLE is reached in as many ticks as `stepsLeft` bounds. -/
theorem runFor_idle {levels : List Level} {s : State} (inv : s.Inv) (hl : s.stepsLeft ≤ levels.length)
    (h : s.offers levels) : ∃ k t, k ≤ levels.length ∧ runFor k s = some t ∧ t.phase = .idle := by
  induction levels generalizing s with
  | nil => exact ⟨0, s, le_rfl, rfl, State.idle_of_stepsLeft (Nat.le_zero.mp hl)⟩
  | cons v l ih =>
    by_cases hp : s.phase = .idle
    · exact ⟨0, s, Nat.zero_le _, rfl, hp⟩
    · obtain ⟨t, hstep, inv', fewer, later⟩ := step_towards_idle inv hp h
      obtain ⟨k, u, hk, hrun, idle⟩ := ih inv' (Nat.le_of_lt_succ (fewer.trans_le hl)) later
      exact ⟨k + 1, u, Nat.succ_le_succ hk, (runFor_succ_of_step hstep k).trans hrun, idle⟩

/-- A bit's samples and the later bits are at most all the bits (spec/70_reset_and_hazards.md R170). -/
theorem State.bitTicks_add_laterBitTicks_le {s : State} (h : s.biti < s.params.nBits) :
    s.params.bitTicks + s.laterBitTicks ≤ s.params.frameTicks := by
  rw [State.laterBitTicks, Params.frameTicks, Nat.add_comm, ← Nat.succ_mul]
  exact Nat.mul_le_mul_right _ (by rw [BitVec.lt_def] at h; omega)

/-- The samples of the present WAIT and of the later ones are at most those of the handshake and of all bits. -/
theorem State.waitTicks_le {s : State} (inv : s.Inv) (hw : s.phase.waiting = true) :
    s.samplesLeft (s.phase.budget s.params) + s.ticksAfterWait ≤ s.params.ackTicks + s.params.frameTicks := by
  have samples : s.samplesLeft (s.phase.budget s.params) ≤ (s.phase.budget s.params).toNat + 1 :=
    Nat.succ_le_succ (Nat.sub_le _ _)
  cases hp : s.phase with rw [hp] at samples
  | ackLow | ackHigh => simp only [State.ticksAfterWait, Phase.budget, Params.ackTicks, hp] at samples ⊢; omega
  | bitLow | bitHigh =>
    have bits := State.bitTicks_add_laterBitTicks_le (inv.bits (by simp [hp]))
    simp only [State.ticksAfterWait, Phase.budget, Params.bitTicks, hp] at samples bits ⊢
    omega
  | idle | settle | startLow | startHigh | check | respond => rw [hp] at hw; cases hw

/-- The parts of the table of R170 that are left are at most the whole table. -/
theorem State.Inv.stepsLeft_le {s : State} (inv : s.Inv) :
    s.stepsLeft ≤ s.params.tSettle.toNat + s.params.acquisitionTicks + 5 + s.ovhLeft := by
  simp only [Params.acquisitionTicks, Params.startTicks]
  by_cases hw : s.phase.waiting = true
  · rw [State.stepsLeft_of_waiting hw]
    have waits := State.waitTicks_le inv hw
    omega
  cases hp : s.phase with
  | settle =>
    have held : s.holdc.toNat ≤ s.params.tSettle.toNat := inv.held _ (by rw [hp]; rfl)
    simp only [State.stepsLeft, hp]
    omega
  | startLow =>
    have held : s.holdc.toNat ≤ s.params.tStartLow.toNat := inv.held _ (by rw [hp]; rfl)
    simp only [State.stepsLeft, hp]
    omega
  | startHigh =>
    have held : s.holdc.toNat ≤ s.params.tStartHigh.toNat := inv.held _ (by rw [hp]; rfl)
    simp only [State.stepsLeft, hp]
    omega
  | idle | check | respond => simp only [State.stepsLeft, hp]; omega
  | ackLow | ackHigh | bitLow | bitHigh => rw [hp] at hw; exact absurd rfl hw

/-- Settles O41: the bound of the steps left falls with every step inside a command, and no such step stops. -/
theorem everyCommandEnds : Obligations.EveryCommandEnds := by
  unfold Obligations.EveryCommandEnds
  refine ⟨rfl, fun s inv => inv.stepsLeft_le, fun s inv hl hr => ?_⟩
  obtain ⟨levels, len, offered⟩ := State.exists_offers hl hr
  rw [← len]
  exact runFor_idle inv len.ge offered

end Sys2Proof.Machine

/-!
PROOFS of the family spec/60_exceptions.md: INVALID_ARG before any effect (R141), and IDLE as the resting state (R156).
-/

namespace Sys2Proof.Machine

theorem execPhaseIdle_noCommand {s : State} (hv : s.inp.cmdValid = false) : execPhaseIdle s = .next s := by
  rw [execPhaseIdle, hv, if_neg Bool.false_ne_true]

/-- Settles O9: with no word on the command port, PHASE_IDLE accepts none. -/
theorem idleWithoutCommandChangesNothing : Obligations.IdleWithoutCommandChangesNothing := by
  unfold Obligations.IdleWithoutCommandChangesNothing
  exact fun s hv => execPhaseIdle_noCommand hv

/-! ## INVALID_ARG -/

theorem execRead_absentArgument {hp dp : Bool} (absent : hp = false ∨ dp = false) (n : Nat) (s : State) :
    execRead hp dp n s = .next (s.abort .invalidArg) := if_pos absent

theorem execDestroy_status {hp : Bool} {n : Nat} {s t : State} (h : execDestroy hp n s = .next t) :
    t.rspArgs.status = .ok := by
  obtain ⟨-, c, -, -, rfl⟩ := execDestroy_next h
  rfl

/-- Settles O20: CREATE and READ abort on the state they find, a reserved word on the state its acceptance leaves; DESTROY
answers OK or not at all. -/
theorem invalidArgBeforeAnyEffect : Obligations.InvalidArgBeforeAnyEffect := by
  unfold Obligations.InvalidArgBeforeAnyEffect
  refine fun s => ⟨fun var pin => ?_, fun hp dp h absent => ?_, fun e hv he => ?_, fun hp h t answered => ?_, rfl⟩
  · exact execCreate_withoutConfig var pin s
  · exact execRead_absentArgument absent h s
  · exact ⟨Config.ovh s.drawn, s.drawn + 1, execPhaseIdle_of_reserved hv he⟩
  · exact execDestroy_status answered

end Sys2Proof.Machine

/-!
PROOFS of the family spec/70_reset_and_hazards.md: the reset state and the block reset (R160, R171), the duration of an acquisition
(R170).
-/

namespace Sys2Proof.Machine

/-! ## Reset -/

theorem State.eq_reset_of_mem_slots {p : Params} {n : Nat} {c : Slot} (hc : c ∈ (State.resetWith p n).slots) : c = Slot.reset :=
  List.eq_of_mem_replicate hc

/-- Settles O10: the reset state is written out field by field, and its slots are copies of a free one. -/
theorem resetStateValues : Obligations.ResetStateValues := by
  unfold Obligations.ResetStateValues
  refine ⟨rfl, ?_⟩
  rintro p n s rfl
  exact ⟨rfl, rfl, rfl, rfl, rfl, List.length_replicate, fun c hc => State.eq_reset_of_mem_slots hc ▸ rfl, rfl, rfl⟩

theorem Slot.reset_sound : Slot.reset.Sound := ⟨nofun, nofun⟩

theorem State.resetWith_inv {p : Params} {n : Nat} (fits : p.fits = true) (one : 1 ≤ n) (max : n ≤ 256) :
    (State.resetWith p n).Inv := by
  have handles : (State.resetWith p n).slots.length = n := List.length_replicate
  refine State.inv_of_atPhase ⟨fits, handles.symm ▸ ⟨one, max⟩, fun c hc => ?_, nofun⟩ (.idle rfl ⟨rfl, rfl⟩) nofun
  exact State.eq_reset_of_mem_slots hc ▸ Slot.reset_sound

/-- Settles O38: no slot is live at reset, and IDLE asks nothing but a released pin. -/
theorem resetSatisfiesInvariant : Obligations.ResetSatisfiesInvariant := by
  unfold Obligations.ResetSatisfiesInvariant
  have defaultsFit : Params.default.fits = true := by decide
  exact ⟨State.resetWith_inv defaultsFit le_rfl (by decide), fun p n fits one max => State.resetWith_inv fits one max⟩

/-- A tick with `rst` = 1 is the block reset, whatever the phase (R160). -/
theorem step_reset {s : State} (hr : s.inp.rst = true) : step s = .next s.blockReset.nextTick := if_pos hr

/-- Settles O11: the tick is the block reset and no instruction, so no command starts, goes on or answers. -/
theorem blockResetAbandonsCommand : Obligations.BlockResetAbandonsCommand := by
  unfold Obligations.BlockResetAbandonsCommand
  intro s hr
  refine ⟨_, step_reset hr, ?_⟩
  simpa [resetSlots_length] using resetSlots_free s.drawn 0 s.slots

/-! ## The ticks of holds and samples of an acquisition (R170) -/

/-- The ticks of the holds and samples so far and the most that can still come. -/
def State.acquisitionTicksBound (s : State) : Nat := ticksOf s.trace + s.acquisitionTicksLeft

theorem State.acquisitionTicksBound_beginTick (s : State) : s.beginTick.acquisitionTicksBound = s.acquisitionTicksBound := rfl

theorem State.acquisitionTicksBound_nextTick (s : State) : s.nextTick.acquisitionTicksBound = s.acquisitionTicksBound := by
  obtain ⟨i, l, n, e⟩ := s.nextTick_eq
  rw [e]
  rfl

/-- From its start an acquisition has the whole table of R170 before it. -/
theorem State.acquisitionTicksLeft_start {s : State} (hp : s.phase = .startLow) (hh : s.holdc = s.params.tStartLow) :
    s.acquisitionTicksLeft = s.params.acquisitionTicks := by
  simp only [State.acquisitionTicksLeft, Params.acquisitionTicks, Params.startTicks, hp, if_pos hh]

/-! The samples -/

theorem State.acquisitionTicksLeft_of_waiting {s : State} (hw : s.phase.waiting = true) :
    s.acquisitionTicksLeft = s.samplesLeft (s.phase.budget s.params) + s.ticksAfterWait := by
  cases hp : s.phase with
  | ackLow | ackHigh | bitLow | bitHigh =>
    simp [State.acquisitionTicksLeft, State.ticksAfterWait, Phase.budget, hp, Nat.add_assoc]
  | idle | settle | startLow | startHigh | check | respond => rw [hp] at hw; cases hw

/-- A hold still to come is one that HOLDC has in full. -/
theorem holdToCome_le (h n : HoldCount) : (if h = n then n.toNat else 0) ≤ h.toNat := by
  split
  · next full => exact full ▸ le_rfl
  · exact Nat.zero_le _

/-- Every tick of a hold or sample still to come is a step still to come, and so are CHECK, RESPOND and the ticks of OVH. -/
theorem State.acquisitionTicksLeft_le (s : State) : s.acquisitionTicksLeft ≤ s.stepsLeft - (s.ovhLeft + 2) := by
  by_cases hw : s.phase.waiting = true
  · rw [State.acquisitionTicksLeft_of_waiting hw, State.stepsLeft_of_waiting hw, Nat.add_sub_cancel_right]
  cases hp : s.phase with
  | idle | check | respond => simp [State.acquisitionTicksLeft, hp]
  | settle =>
    simp only [State.acquisitionTicksLeft, State.stepsLeft, Params.acquisitionTicks, Params.startTicks, hp]
    omega
  | startLow =>
    have hold := holdToCome_le s.holdc s.params.tStartLow
    simp only [State.acquisitionTicksLeft, State.stepsLeft, hp]
    omega
  | startHigh =>
    have hold := holdToCome_le s.holdc s.params.tStartHigh
    simp only [State.acquisitionTicksLeft, State.stepsLeft, hp]
    omega
  | ackLow | ackHigh | bitLow | bitHigh => rw [hp] at hw; exact absurd rfl hw

theorem State.bitLoop_ovhLeft (s : State) : s.bitLoop.ovhLeft = s.ovhLeft := by
  obtain ⟨-, h⟩ | ⟨-, h⟩ := s.bitLoop_cases <;> rw [h] <;> rfl

theorem afterWait_ovhLeft (p : Phase) (s : State) (c : Count) : (afterWait p s c).ovhLeft = s.ovhLeft := by
  cases p with
  | ackHigh | bitHigh => exact State.bitLoop_ovhLeft _
  | ackLow | bitLow | idle | settle | startLow | startHigh | check | respond => rfl

theorem State.waitTick_ovhLeft (s : State) (p : Phase) : (s.waitTick (afterWait p)).ovhLeft = s.ovhLeft := by
  obtain ⟨-, -, h⟩ | ⟨-, h⟩ | ⟨-, -, h⟩ := s.waitTick_cases (afterWait p) <;> rw [h]
  · rfl
  · exact afterWait_ovhLeft p s.sample s.cnt
  · rfl

/-- A sample takes one tick, and the steps left get fewer by one at least (O41). -/
theorem State.waitTick_bound {s : State} (inv : s.Inv) (hw : s.phase.waiting = true) :
    (s.waitTick (afterWait s.phase)).acquisitionTicksBound ≤ s.acquisitionTicksBound := by
  obtain ⟨-, fewer⟩ := State.waitTick_shortens inv hw
  have later := (s.waitTick (afterWait s.phase)).acquisitionTicksLeft_le
  have sampled : ticksOf (s.waitTick (afterWait s.phase)).trace = 1 + ticksOf s.trace := by
    rw [s.waitTick_trace]
    rfl
  have positive : 1 ≤ s.samplesLeft (s.phase.budget s.params) := Nat.succ_pos _
  rw [s.waitTick_ovhLeft] at later
  rw [State.stepsLeft_of_waiting hw] at fewer
  rw [State.acquisitionTicksBound, State.acquisitionTicksBound, sampled, State.acquisitionTicksLeft_of_waiting hw]
  omega

/-! The start signal: a hold's ticks count from the tick that drives the line (log 26) -/

/-- A hold that has begun is never found full again. -/
theorem holdc_sub_one_ne {h n : HoldCount} (h0 : h ≠ 0#20) (held : h.toNat ≤ n.toNat) : h - 1#20 ≠ n := by
  intro full
  have left := holdc_sub_one_toNat h0
  rw [full] at left
  exact h0 (BitVec.eq_of_toNat_eq (by simp only [BitVec.toNat_ofNat]; omega))

/-- Once START_HIGH's event is in the trace only the WAITs can still come. -/
theorem State.startHighTick_bound {s : State} (hp : s.phase = .startHigh) (held : s.holdc.toNat ≤ s.params.tStartHigh.toNat) :
    s.startHighTick.acquisitionTicksBound = ticksOf s.trace + (s.params.ackTicks + s.params.frameTicks) := by
  obtain ⟨-, e⟩ | ⟨hh, e⟩ := s.startHighTick_cases <;> rw [e]
  · have waits : (s.pinDir false).enterAckLow.acquisitionTicksBound =
        (0 + ticksOf s.trace) + ((s.params.tAck.toNat + 1) + (s.params.tAck.toNat + 1) + s.params.frameTicks) := rfl
    rw [waits, Params.ackTicks]
    omega
  · have begun := holdc_sub_one_ne hh held
    simp [State.acquisitionTicksBound, State.acquisitionTicksLeft, hp, begun]

/-- START_HIGH's first tick puts its hold into the trace. -/
theorem State.startHighFirst_bound {s : State} (hp : s.phase = .startHigh) (hh : s.holdc = s.params.tStartHigh) :
    s.startHighFirst.acquisitionTicksBound =
      ticksOf s.trace + (s.params.tStartHigh.toNat + s.params.ackTicks + s.params.frameTicks) := by
  have bound := State.startHighTick_bound (s := s.driveHigh) hp (congrArg BitVec.toNat hh).le
  have driven : ticksOf s.driveHigh.trace = s.params.tStartHigh.toNat + (0 + ticksOf s.trace) := rfl
  have params : s.driveHigh.params = s.params := rfl
  rw [State.startHighFirst, bound, driven, params]
  omega

/-- Once START_LOW's event is in the trace the hold of START_HIGH and the WAITs can still come. -/
theorem State.startLowTick_bound {s : State} (hp : s.phase = .startLow) (hh : s.holdc ≠ 0#20)
    (held : s.holdc.toNat ≤ s.params.tStartLow.toNat) :
    s.startLowTick.acquisitionTicksBound =
      ticksOf s.trace + (s.params.tStartHigh.toNat + s.params.ackTicks + s.params.frameTicks) := by
  obtain ⟨-, e⟩ | ⟨-, e⟩ := s.startLowTick_cases <;> rw [e]
  · simp [State.acquisitionTicksBound, State.acquisitionTicksLeft, State.enterStartHigh]
  · have begun := holdc_sub_one_ne hh held
    simp [State.acquisitionTicksBound, State.acquisitionTicksLeft, hp, begun]

/-- START_LOW's first tick puts its hold into the trace, and START_HIGH's as well when its own is nothing (spec/20_memory.md
R45). -/
theorem State.startLowFirst_bound {s : State} (hp : s.phase = .startLow) (hh : s.holdc = s.params.tStartLow) (c : Slot) :
    (s.startLowFirst c).acquisitionTicksBound = s.acquisitionTicksBound := by
  have driven : ticksOf (s.driveLow c).trace = s.params.tStartLow.toNat + (0 + (0 + ticksOf s.trace)) := rfl
  have bound : (s.startLowFirst c).acquisitionTicksBound =
      ticksOf (s.driveLow c).trace + (s.params.tStartHigh.toNat + s.params.ackTicks + s.params.frameTicks) := by
    obtain ⟨-, e⟩ | ⟨positive, e⟩ := s.startLowFirst_cases c <;> rw [e]
    · exact State.startHighFirst_bound (s := (s.driveLow c).enterStartHigh) rfl rfl
    · exact State.startLowTick_bound (s := s.driveLow c) hp (fun h0 => positive (hh ▸ h0)) (congrArg BitVec.toNat hh).le
  rw [bound, driven, State.acquisitionTicksBound, State.acquisitionTicksLeft_start hp hh, Params.acquisitionTicks,
    Params.startTicks]
  omega

theorem execPhaseStartLow_bound {s t : State} (inv : s.Inv) (hp : s.phase = .startLow) (h : execPhaseStartLow s = .next t) :
    t.acquisitionTicksBound = s.acquisitionTicksBound := by
  have held : s.holdc.toNat ≤ s.params.tStartLow.toNat := inv.held _ (by rw [hp]; rfl)
  obtain ⟨c, -, ⟨hh, -, rfl⟩ | ⟨hh, rfl⟩⟩ := execPhaseStartLow_next h
  · exact State.startLowFirst_bound hp hh c
  · rw [State.startLowTick_bound hp (inv.lowHeld hp hh) held]
    simp [State.acquisitionTicksBound, State.acquisitionTicksLeft, hp, hh]

theorem execPhaseStartHigh_bound {s t : State} (inv : s.Inv) (hp : s.phase = .startHigh)
    (h : execPhaseStartHigh s = .next t) : t.acquisitionTicksBound = s.acquisitionTicksBound := by
  have held : s.holdc.toNat ≤ s.params.tStartHigh.toNat := inv.held _ (by rw [hp]; rfl)
  obtain ⟨hh, e⟩ | ⟨hh, e⟩ := execPhaseStartHigh_cases s <;> cases e.symm.trans h
  · rw [State.startHighFirst_bound hp hh]
    simp [State.acquisitionTicksBound, State.acquisitionTicksLeft, hp, hh]
  · rw [State.startHighTick_bound hp held]
    simp [State.acquisitionTicksBound, State.acquisitionTicksLeft, hp, hh]

/-! The other phases, which add no hold and no sample -/

theorem State.respond_bound (s : State) (r : Response) : (s.respond r).acquisitionTicksBound = ticksOf s.trace := rfl

theorem execPhaseSettle_bound {s t : State} (hp : s.phase = .settle) (h : execPhaseSettle s = .next t) :
    t.acquisitionTicksBound ≤ s.acquisitionTicksBound := by
  have whole : s.acquisitionTicksBound = ticksOf s.trace + s.params.acquisitionTicks := by
    simp [State.acquisitionTicksBound, State.acquisitionTicksLeft, hp]
  have read : ticksOf s.readNow.trace = ticksOf s.trace := Nat.zero_add _
  obtain ⟨-, rfl⟩ | ⟨-, c, -, rfl⟩ := execPhaseSettle_next h
  · rw [whole]
    simp [State.acquisitionTicksBound, State.acquisitionTicksLeft, hp]
  obtain ⟨-, -, e⟩ | ⟨-, -, e⟩ | ⟨-, e⟩ := s.readNow.readSlot_cases c <;> rw [e, whole, ← read]
  · exact (s.readNow.respond_bound _).trans_le (Nat.le_add_right _ _)
  · exact (s.readNow.respond_bound _).trans_le (Nat.le_add_right _ _)
  · exact (congrArg _ (State.acquisitionTicksLeft_start rfl rfl)).le

theorem execPhaseCheck_bound {s t : State} (h : execPhaseCheck s = .next t) :
    t.acquisitionTicksBound ≤ s.acquisitionTicksBound := by
  obtain ⟨-, c, -, rfl⟩ | ⟨-, rfl⟩ := execPhaseCheck_next h <;>
    exact (State.respond_bound _ _).trans_le (Nat.le_add_right _ _)

theorem execPhaseRespond_bound {s t : State} (h : execPhaseRespond s = .next t) :
    t.acquisitionTicksBound ≤ s.acquisitionTicksBound := by
  obtain ⟨-, e⟩ | ⟨-, e⟩ := execPhaseRespond_cases s <;> cases e.symm.trans h
  · exact (Nat.zero_add _).le.trans (Nat.le_add_right _ _)
  · exact le_rfl

/-- Inside a command no instruction makes the bound grow. -/
theorem exec_bound {s t : State} (inv : s.Inv) (busy : s.phase ≠ .idle) (h : exec s.phase.instr s = .next t) :
    t.acquisitionTicksBound ≤ s.acquisitionTicksBound := by
  by_cases hw : s.phase.waiting = true
  · cases (exec_waiting hw s).symm.trans h
    exact State.waitTick_bound inv hw
  cases hp : s.phase with rw [hp] at h
  | idle => exact absurd hp busy
  | settle => exact execPhaseSettle_bound hp h
  | startLow => exact (execPhaseStartLow_bound inv hp h).le
  | startHigh => exact (execPhaseStartHigh_bound inv hp h).le
  | check => exact execPhaseCheck_bound h
  | respond => exact execPhaseRespond_bound h
  | ackLow | ackHigh | bitLow | bitHigh => rw [hp] at hw; exact absurd rfl hw

/-- Settles O42: the start has the table's ticks before it, and no instruction makes the bound grow. OVH stands on both sides. -/
theorem acquisitionTicksAreBounded : Obligations.AcquisitionTicksAreBounded := by
  unfold Obligations.AcquisitionTicksAreBounded
  refine ⟨rfl, fun s hp hh => State.acquisitionTicksLeft_start hp hh, fun s t ovh inv hr busy h => ?_⟩
  obtain ⟨u, hu, rfl⟩ := step_exec hr h
  have bound : u.nextTick.acquisitionTicksBound ≤ s.acquisitionTicksBound := by
    rw [State.acquisitionTicksBound_nextTick, ← s.acquisitionTicksBound_beginTick]
    exact exec_bound inv.beginTick busy hu
  simp only [State.acquisitionTicksBound] at bound
  simp only [commandTicks]
  omega

end Sys2Proof.Machine
